-- ==== Sys2Proof/Word.lean ====
section
/-! DEFINITION. The word types of the RA624 and their plainest arithmetic. -/

namespace Sys2Proof

/-- One octet of a trunk frame, a message or the phrase store. -/
abbrev Byte := BitVec 8

/-- One word of Parameter Memory (R197), one sample (R193) or one sense word (R194). -/
abbrev Word := BitVec 16

/-- A set of zones as its 24-bit mask: bit z stands for zone z (R193). -/
abbrev ZoneSet := BitVec 24

/-- Zones 0..23. -/
abbrev ZoneId := Fin 24

/-- Playout channels 0..5. -/
abbrev ChanId := Fin 6

/-- Handles 0..63; 63 is the evacuation handle (R44). -/
abbrev Handle := Fin 64

/-- Live source slots S0..S7. -/
abbrev SlotId := Fin 8

/-- Slots 0..255 of the call table (R98). -/
abbrev CallSlot := Fin 256

/-- `x` moved to the nearer end of `lo..hi` when it lies outside. -/
def clampInt (lo hi x : Int) : Int := if x < lo then lo else if hi < x then hi else x

/-- `x` moved to the nearer end of `lo..hi` when it lies outside. -/
def clampNat (lo hi x : Nat) : Nat := if x < lo then lo else if hi < x then hi else x

/-- A counter that stops at 65535. -/
def bump16 (n : Nat) : Nat := if n < 65535 then n + 1 else n

end Sys2Proof
end

