-- ==== Sys2Proof/Syntax.lean ====
section
/-! DEFINITION. The commands of the RA624: one constructor for each row of spec/opcode_table.json, each a
whole and indivisible step (95_what_each_step_holds.md). A request's fields are those of the message at the
head of the request buffer, from which MP takes it (R180); its constructor therefore carries none. -/

namespace Sys2Proof

/-- A command: one step of the table of operations and events. -/
inductive Instr where
  /-- PARAM_WRITE (R185). Validates a whole write of Parameter Memory words and writes them, clamping numeric fields,
  for words whose writes have no row of their own. -/
  | paramWrite
  /-- PARAM_READ (R184). Returns the requested Parameter Memory words as they stand at one instant, or refuses with
  BAD_ADDRESS. -/
  | paramRead
  /-- ZONE_ENABLE_WRITE (R5). A write that turns a zone's enable field on moves the zone from DISABLED to FREE or
  TRIPPED and puts staged limiter settings in force. -/
  | zoneEnableWrite
  /-- ZONE_DISABLE_WRITE (R6). A write that turns a zone's enable field off moves the zone to DISABLED, detaches its
  owner and clears its stack, pending claim and reservation. -/
  | zoneDisableWrite
  /-- LIMITER_MODE_WRITE (R143). A write of a zone's limiter mode or timeout is staged, or applied at once, and a
  change of applied mode resets regulation. -/
  | limiterModeWrite
  /-- COMPENSATION_WRITE (R147). A write of Aref, slope, Cmax or compensation enable starts blanking, clamps c and c_t,
  or zeroes the target. -/
  | compensationWrite
  /-- DUCK_DEPTH_WRITE (R40). A write of D below the applied duck sets d to the new D at the frame event that takes
  effect. -/
  | duckDepthWrite
  /-- LATE_THRESHOLD_WRITE (R101). A write of the late threshold recomputes the L flag of every call and sets
  notice-pending where L changes. -/
  | lateThresholdWrite
  /-- CHANGE_MASK_WRITE (R189). A write of the change masks removes from the pending set each item whose bit is
  cleared. -/
  | changeMaskWrite
  /-- CLIP_COUNTER_CLEAR (R37). A write of 0 to a zone's clip counter word clears it, and any other value leaves it
  unchanged. -/
  | clipCounterClear
  /-- UNDERRUN_COUNTER_CLEAR (R97). A write of 0 to a channel's underrun counter word clears it. -/
  | underrunCounterClear
  /-- SKIPPED_COUNT_CLEAR (R78). A write of 0 to the skipped-element count clears it. -/
  | skippedCountClear
  /-- LINK_COUNTER_CLEAR (R176). A write of 0 to a link counter word clears that counter. -/
  | linkCounterClear
  /-- STATE_SET (R157). Moves the device state among CONFIG, RUN and QUIET after its checks, with the work of the
  target state. -/
  | stateSet
  /-- TIME_SET (R104). Sets the station clock to the given day and second and makes it VALID. -/
  | timeSet
  /-- CALL_SET (R115). Checks a call record and either creates it or replaces an existing one. -/
  | callSet
  /-- CALL_DELETE (R118). Ends every announcement of the call with WITHDRAWN and frees its slot without a notice. -/
  | callDelete
  /-- DELAY (R125). A CALL_EVENT DELAY sets the call's delay and recomputes L, moving PENDING EXPECTED triggers. -/
  | delay
  /-- PLATFORM (R127). A CALL_EVENT PLATFORM records the new and previous platform, sets P, amends the call's TIMETABLE
  announcements and re-arms their triggers. -/
  | platform
  /-- ARRIVED (R130). A CALL_EVENT ARRIVED sets A and moves the call to ARRIVED. -/
  | arrived
  /-- DEPARTED (R131). A CALL_EVENT DEPARTED sets A and D, moves the call to DEPARTED and sets its retire time. -/
  | departed
  /-- CANCEL (R132). A CALL_EVENT CANCEL sets C, moves the call to CANCELLED, sets its retire time and amends its
  TIMETABLE announcements. -/
  | cancel
  /-- REINSTATE (R133). A CALL_EVENT REINSTATE clears C, clears the retire time and returns timely NOT_MET and
  SUPPRESSED triggers to PENDING. -/
  | reinstate
  /-- ANNOUNCE (R49). Checks an announcement request, allocates a handle and queues the record. -/
  | announce
  /-- ANN_CANCEL (R62). Ends the named announcement or page with outcome CANCELLED. -/
  | annCancel
  /-- PAGE_OPEN (R60). Opens a live page from a source slot, claiming its available zones and starting its hang timer.
  -/
  | pageOpen
  /-- PAGE_CLOSE (R62). Ends the named page with outcome CLOSED. -/
  | pageClose
  /-- EVAC_START (R161). Enters EVAC, ends non-EMERGENCY active records and pages, builds the evacuation record and
  takes its zones. -/
  | evacStart
  /-- EVAC_END (R166). Restores the prior state, ends the evacuation record with COMPLETE, releases its zones and
  places its ANN_DONE after the RESULT. -/
  | evacEnd
  /-- FAULT_CLEAR (R182). Clears the supervision faults of each zone of the mask and places each zone for testing. -/
  | faultClear
  /-- RESET (R192). Places the RESET request's RESULT and stops taking requests and building notices until the soft
  reset. -/
  | reset
  /-- SOFT_RESET (R192). Taken when the RESET's RESULT has left the Up port, it sets every block to its soft reset
  values. -/
  | softReset
  /-- RESET_PIN_ASSERT (R167). While the reset pin is held the part sends and takes no frames and holds the Phrase
  Store Port pins at high impedance. -/
  | resetPinAssert
  /-- RESET_PIN_RELEASE (R179). Power-on reset ends: the trunk address is latched, both directions enter SEARCH and the
  local frame timer starts. `straps` is the value on the eight address straps. -/
  | resetPinRelease (straps : Byte)
  /-- DOWNSTREAM_FRAME_ARRIVAL (R169). A downstream frame arrives at the Up port and moves the downstream alignment
  state by its sync octet. `octets` are its 22 octets. -/
  | downstreamFrameArrival (octets : List Byte)
  /-- LOCAL_FRAME_TIMER_EXPIRY (R168). The local frame timer expires while the downstream direction is not ALIGNED and
  makes a frame event. -/
  | localFrameTimerExpiry
  /-- DUCK_STEP_EVENT (R39). Every 32 frame events, each zone's applied duck moves one step toward its target. -/
  | duckStepEvent
  /-- LIMITER_STEP_EVENT (R145). Every 800 frame events, each regulating zone's reduction r rises or falls and
  regulation may end or time out. -/
  | limiterStepEvent
  /-- COMPENSATION_STEP_EVENT (R149). Every 8,000 frame events, each untripped zone's applied compensation moves one
  step toward its target. -/
  | compensationStepEvent
  /-- SECOND_EVENT (R103). Every 16,000 frame events the station clock advances, then triggers, retirement and
  staleness are evaluated. `stalenessFirst` says which of staleness and trigger evaluation is taken first (R112 allows
  either). -/
  | secondEvent (stalenessFirst : Bool)
  /-- PAGE_HANG_EXPIRY (R61). The page's hang timer runs out and the page ends with outcome HANG. `slot` is the source
  slot of the page. -/
  | pageHangExpiry (slot : SlotId)
  /-- UPSTREAM_FRAME_ARRIVAL (R172). An upstream frame arrives at the Down port, moves upstream alignment and has its
  sense words relayed. `octets` are its 54 octets. -/
  | upstreamFrameArrival (octets : List Byte)
  /-- SCAN_ROUND_BEGIN (R138). At the interval timer's expiry a line test round is formed from the eligible zones and
  the clear list. -/
  | scanRoundBegin
  /-- LINE_TEST_END (R141). At the test timer's expiry the latest LOAD value sets the line state OPEN, SHORT or NORMAL,
  or the no-report count rises. -/
  | lineTestEnd
  /-- BURST_GRANT (R94). The arbiter grants the idle port to the requesting channel of the most urgent record, in turn
  among equals. -/
  | burstGrant
  /-- BURST_COMPLETE (R95). A phrase store burst completes, and its data enters the channel's FIFO unless it was
  voided. `octets` are the octets read, in store order. -/
  | burstComplete (octets : List Byte)
  /-- ELEMENT_END (R85). An element ends when its last sample is emitted or its gap runs down, and the next element
  begins or the list completes or loops. `channel` is the channel whose element ends. -/
  | elementEnd (channel : ChanId)
  /-- ANN_DONE_BUILD (R188). When a place frees, MP builds the ANN_DONE of the oldest finished record and frees its
  handle. -/
  | annDoneBuild
  /-- CHANGE_BUILD (R190). When a place frees, MP builds a CHANGE notice of up to 8 pending items. -/
  | changeBuild
  /-- CALL_NOTICE_BUILD (R191). When a place frees, MP builds the CALL notice of the lowest flagged slot, clears its
  flag and frees it if due for retirement. -/
  | callNoticeBuild
  /-- BAD_TYPE_REQUEST (R181). A good request whose type octet names no request, or names one of the part's own message
  types, is taken from the request buffer and refused with BAD_TYPE. -/
  | badTypeRequest
  /-- UNKNOWN_EVENT_CODE (R123). A CALL_EVENT request whose event code is not one of the six running events is taken
  and refused with BAD_VALUE, changing nothing. -/
  | unknownEventCode
  deriving DecidableEq, Repr

end Sys2Proof
end

