-- ==== Sys2Proof/Decode.lean ====
section
/-! DEFINITION. The command a word spells by the table's bits. The table gives no row any bits (every row's
"fields" is empty and no row has "fixed" bits), so no word spells a command (DESIGN CHOICE, log entry 1). -/

namespace Sys2Proof

/-- No row of spec/opcode_table.json has bits: no word spells a command. -/
def decodeTableWord (_nbits _w : Nat) : Option Instr := none

end Sys2Proof
end

