-- ==== Sys2Proof/Config.lean ====
section
/-! DEFINITION. What the device fixes once and for all: its times, its sizes, the gain table that
"is part of the device" (R33), and the free values, which nothing in Lean can evaluate. -/

namespace Sys2Proof.Config

/-- Frame events in a millisecond (00_scope.md, section 3.1). -/
def framesPerMs : Nat := 16
/-- Frame events in a second. -/
def framesPerSecond : Nat := 16000
/-- A duck step event comes at each frame count that is a multiple of this (R39). -/
def duckPeriod : Nat := 32
/-- The same for the limiter step event (R145). -/
def limiterPeriod : Nat := 800
/-- The same for the compensation step event (R149). -/
def compensationPeriod : Nat := 8000
/-- The frame count runs 0..2^48 - 1 (R168). -/
def frameCountModulus : Nat := 281474976710656
/-- Length of blanking, 2 s in frame events (R147). -/
def blankingFrames : Nat := 32000
/-- Length of a line test, 250 ms in frame events (R140). -/
def lineTestFrames : Nat := 4000
/-- Seconds in a day. -/
def daySeconds : Nat := 86400
/-- The largest sequence number (R45). -/
def lastSequence : Nat := 4294967295
/-- The queue holds at most this many records (R48). -/
def queueLimit : Nat := 32
/-- The outbound queue holds at most this many messages (R180). -/
def outboundLimit : Nat := 16
/-- The request buffer holds at most this many messages (R177). -/
def requestLimit : Nat := 4
/-- A forward buffer holds this many octets (R175). -/
def forwardLimit : Nat := 512
/-- The longest message, in octets (R173). -/
def messageLimit : Nat := 247
/-- A channel's FIFO holds at most this many samples (R79). -/
def fifoLimit : Nat := 256
/-- How many pieces of inner work one command carries out before it hands what is left to the next
command (DESIGN CHOICE, log entry 6; a bound of the model, far above what any chapter's work needs). -/
def workBound : Nat := 65536

/-- The gain table of R33 for codes -119..-76. -/
def gainTableLow : List Nat := [
   17, 18, 19, 21, 22, 23, 25, 26, 28, 29, 31,
   33, 35, 37, 39, 41, 44, 46, 49, 52, 55, 58,
   62, 65, 69, 73, 78, 82, 87, 92, 98, 103, 110,
   116, 123, 130, 138, 146, 155, 164, 174, 184, 195, 206]

/-- The gain table of R33 for codes -75..-32. -/
def gainTableMid : List Nat := [
   218, 231, 245, 260, 275, 291, 309, 327, 346, 367, 389,
   412, 436, 462, 489, 518, 549, 581, 616, 652, 691, 732,
   775, 821, 870, 921, 976, 1034, 1095, 1160, 1229, 1301, 1379,
   1460, 1547, 1638, 1735, 1838, 1947, 2063, 2185, 2314, 2451, 2597]

/-- The gain table of R33 for codes -31..+12. -/
def gainTableHigh : List Nat := [
   2751, 2914, 3086, 3269, 3463, 3668, 3885, 4115, 4359, 4618, 4891,
   5181, 5488, 5813, 6158, 6523, 6909, 7318, 7752, 8211, 8698, 9213,
   9759, 10338, 10950, 11599, 12286, 13014, 13785, 14602, 15467, 16384, 17355,
   18383, 19472, 20626, 21848, 23143, 24514, 25967, 27506, 29135, 30862, 32690]

/-- The 132 entries of R33, one for each code from -119 to +12. -/
def gainTable : List Nat := gainTableLow ++ gainTableMid ++ gainTableHigh

/-- FREE VALUE (DESIGN CHOICE, log entry 10): what an invalid message octet of a frame the part sends holds. The
spec names such octets invalid and states no value for them. The arguments are the number of the frame among
those the part has sent and the octet's place 0..3. -/
opaque invalidOctet (frame position : Nat) : Byte

/-- FREE VALUE (DESIGN CHOICE, log entry 39): the value bits of a sense word of type NONE in an upstream frame the part
makes itself. The spec gives the words their type alone. The arguments are the number of the frame among those the part
has sent and the zone. -/
opaque noneValue (frame zone : Nat) : BitVec 12

end Sys2Proof.Config
end

