-- ==== Sys2Proof/Machine/State.lean ====
section
/-! DEFINITION. The state of the RA624, as plain data: every register, record, table, buffer, counter, mode and
pin the spec gives it, grouped by the block that owns it (00_scope.md, section 2.1), the model's own fields
`owed`, `work` and `pending`, and the state after reset. -/

namespace Sys2Proof.Machine

/-! ### Names -/

/-- Classes, most urgent first (00_scope.md, section 3.5). -/
inductive Cls where
  | emergency | live | safety | call | info
  deriving DecidableEq, Repr

/-- Device state (R156). -/
inductive DeviceState where
  | config | run | quiet | evac
  deriving DecidableEq, Repr

/-- Alignment of a trunk direction; `lost` is HOLDOVER downstream and LOST upstream (R169, R172). -/
inductive Align where
  | search | aligned | lost
  deriving DecidableEq, Repr

/-- Origin of a record (R46, R60, R162). -/
inductive Origin where
  | manual | timetable | page | evac
  deriving DecidableEq, Repr

/-- Outcomes (R57); `partly` is PARTIAL. -/
inductive EndOutcome where
  | complete | partly | cancelled | stale | noZone | amended | withdrawn | displaced | preempted
  | abortedEvac | abortedState | closed | hang | linkLost
  deriving DecidableEq, Repr

/-- A record reference: handle and sequence number (R2). -/
structure RecRef where
  handle : Handle
  seq : Nat
  deriving DecidableEq, Repr

/-! ### Zone records -/

/-- The ownership state with what is present in it (R2). `choosing` is the model's own: the zone is inside
its release choice (R14 to R16), coming from OWNED or from RESERVED, and given to the record the choice has named,
if it has named one. -/
inductive Ownership where
  | disabled
  | free
  | owned (owner : RecRef) (claim : Option RecRef)
  | reserved (holder : RecRef)
  | tripped
  | choosing (wasOwned : Bool) (named : Option RecRef)
  deriving DecidableEq, Repr

/-- Line state (R135). -/
inductive LineState where
  | untested | normal | openLine | shortLine | noReport
  deriving DecidableEq, Repr

/-- Trip state (R135). -/
inductive TripState where
  | none | overload | limitTimeout | isolated
  deriving DecidableEq, Repr

/-- Limiter mode (R1, R135). -/
inductive LimiterMode where
  | trip | regulate | regulateThenMute | regulateThenTrip
  deriving DecidableEq, Repr

/-- Limiter timeout, 1, 2, 4 or 8 s (R1, R135). -/
inductive LimiterTimeout where
  | s1 | s2 | s4 | s8
  deriving DecidableEq, Repr

/-- Above-since-step (R135). -/
inductive AboveSince where
  | none | above | notAbove
  deriving DecidableEq, Repr

/-- What a zone record holds outside Parameter Memory: the ownership part (R2), ZM's two items (R25) and the
supervision part (R135). -/
structure Zone where
  own : Ownership
  /-- the preemption stack, top first -/
  stack : List RecRef
  lastReleased : Option Nat
  duck : Nat
  clip : Nat
  line : LineState
  trip : TripState
  overCount : Nat
  appliedMode : LimiterMode
  appliedTimeout : LimiterTimeout
  tripOverride : Bool
  limActive : Bool
  limR : Nat
  elapsed : Nat
  aboveSince : AboveSince
  cTarget : Nat
  comp : Nat
  blankUntil : Option Nat
  noReport : Nat
  deriving DecidableEq, Repr

/-- The zone under test, its test timer in frame events and the latest LOAD value (R140). -/
structure TestRun where
  zone : ZoneId
  timer : Nat
  load : Option Nat
  deriving DecidableEq, Repr

/-- The line test scan, held once for the device (R138). -/
structure Scan where
  round : Bool
  /-- zones still to be tested in the round, each with its deferral count -/
  roundList : List (ZoneId × Nat)
  /-- zones placed by FAULT_CLEAR outside a round, each with its deferral count -/
  clearList : List (ZoneId × Nat)
  under : Option TestRun
  /-- the interval timer in frame events, absent while a round is in progress -/
  interval : Option Nat
  deriving DecidableEq, Repr

/-! ### Records of the Announcement Controller -/

/-- One element of a resolved list: a phrase id, or a gap in units of 10 ms (R68). -/
inductive Spoken where
  | phrase (id : Nat)
  | gap (units : Nat)
  deriving DecidableEq, Repr

/-- A resolved element with its bound flag (R68). -/
structure Resolved where
  what : Spoken
  bound : Bool
  deriving DecidableEq, Repr

/-- What kind of record it is and what only that kind holds. A page holds its source slot, hang time in
seconds and hang timer in frame events (R60); `report` is the model's own: an activity report met the
timer's expiry and neither has been taken yet (R61, DEDUCED, log entry 9). -/
inductive Body where
  | announcement
  | page (slot : SlotId) (hang : Nat) (timer : Nat) (report : Bool)
  | evacTemplate
  | evacSource (slot : SlotId)
  deriving DecidableEq, Repr

/-- The states of R48, R60 and R162. `starting` and `ending` are the model's own: inside a start (R55) and
inside an ending (R58). -/
inductive RecState where
  | queued | starting | playing | paused | live | sounding | channelWait | ending | done
  deriving DecidableEq, Repr

/-- An announcement, page or evacuation record (R46, R60, R162). -/
structure Rec where
  seq : Nat
  origin : Origin
  cls : Cls
  body : Body
  template : Nat
  callId : Option Nat
  trigger : Option (Fin 6)
  requested : ZoneSet
  effective : ZoneSet
  /-- station time as a count of seconds (R105) -/
  validUntil : Option Nat
  together : Bool
  repeatMissed : Bool
  isRepeat : Bool
  degraded : Bool
  restarts : Nat
  state : RecState
  channel : Option ChanId
  /-- the resolved element list; empty when absent -/
  list : List Resolved
  index : Nat
  live : ZoneSet
  detached : ZoneSet
  start : ZoneSet
  /-- the model's own: zones that cannot be covered, gained through a fallback or cleared of a trip (R20, R21) -/
  barred : ZoneSet
  /-- the model's own: zones that cannot be covered after the latest start, not available at it, or lost to a more
  urgent pending claim (R9, R55) -/
  late : ZoneSet
  /-- the covered set, frozen when the record ends (R57) -/
  covered : ZoneSet
  outcome : Option EndOutcome
  repeatHandle : Option Handle
  deriving DecidableEq, Repr

/-! ### Playout -/

/-- Channel states (R79). -/
inductive ChanState where
  | idle | loading | running | paused
  deriving DecidableEq, Repr

/-- Encodings of phrase audio (R73). -/
inductive Encoding where
  | linear16 | compressed8
  deriving DecidableEq, Repr

/-- A phrase directory entry (R73). -/
structure DirEntry where
  start : Nat
  length : Nat
  encoding : Encoding
  deriving DecidableEq, Repr

/-- The current element of a channel (R79): absent, gap frames remaining, or the captured entry with the
fetch address, the fetch samples remaining and the emit samples remaining. -/
inductive Current where
  | none
  | gap (left : Nat)
  | phrase (entry : DirEntry) (fetchAddr fetchLeft emitLeft : Nat)
  deriving DecidableEq, Repr

/-- The record a channel plays for (R79). -/
structure Bound where
  ref : RecRef
  cls : Cls
  deriving DecidableEq, Repr

/-- A playout channel (R79). `startArmed`: element 0 was begun at a start, a restart or a resume and its start
report is still to be made (R82). -/
structure Channel where
  state : ChanState
  bound : Option Bound
  index : Nat
  cur : Current
  fifo : List Word
  inFlight : Bool
  loop : Bool
  loopWait : Bool
  endFlag : Bool
  underrun : Nat
  startArmed : Bool
  deriving DecidableEq, Repr

/-- A burst in flight on the Phrase Store Port (R91, R92). -/
structure Burst where
  chan : ChanId
  addr : Nat
  octets : Nat
  samples : Nat
  void : Bool
  deriving DecidableEq, Repr

/-- The Phrase Store Port (R91): BUSY while `busy` holds a burst. `sent` holds the command and address octets
driven for the latest burst (R92); `afterReset` marks a burst that a soft reset found in flight. -/
structure Port where
  busy : Option Burst
  lastGranted : ChanId
  afterReset : Bool
  highZ : Bool
  sent : List Byte
  deriving DecidableEq, Repr

/-! ### Call Scheduler -/

/-- Kinds of call (R98). -/
inductive CallKind where
  | arrival | departure
  deriving DecidableEq, Repr

/-- Call states (R100). -/
inductive CallState where
  | planned | arrived | departed | cancelled
  deriving DecidableEq, Repr

/-- Trigger states (R110). -/
inductive TrigState where
  | pending | fired | notMet | missed | skipped | suppressed
  deriving DecidableEq, Repr

/-- A trigger's state and handle (R98). -/
structure Trig where
  state : TrigState
  handle : Option Handle
  deriving DecidableEq, Repr

/-- A call record (R98). A delay of `none` is UNKNOWN; the retire time is a count of seconds (R105). `foundDue`: the
latest second event of a VALID clock found the record due for retirement, and nothing has set its retire time since
(R120; DEDUCED, log entry 17). -/
structure Call where
  id : Nat
  kind : CallKind
  platform : Nat
  prevPlatform : Option Nat
  destination : Option Nat
  origin : Option Nat
  operator : Option Nat
  carriages : Nat
  day : Nat
  minute : Nat
  delay : Option Nat
  plan : Nat
  late : Bool
  cancelled : Bool
  changed : Bool
  arrived : Bool
  departed : Bool
  state : CallState
  retire : Option Nat
  trigs : Vector Trig 6
  noticePending : Bool
  foundDue : Bool
  deriving DecidableEq, Repr

/-- The station clock (R103). -/
structure Clock where
  day : Nat
  second : Nat
  valid : Bool
  deriving DecidableEq, Repr

/-! ### Trunk Interface -/

/-- A forwarded octet in a forward buffer, with the marks of a message's first and last octet (R173). -/
structure Item where
  octet : Byte
  first : Bool
  last : Bool
  deriving DecidableEq, Repr

/-- A message in reception (R173, R174, R175): its octets so far, whether the part takes it and whether its
octets go into the forward buffer. -/
structure Reception where
  isOpen : Bool
  octets : List Byte
  taken : Bool
  forwarded : Bool
  deriving DecidableEq, Repr

/-- What the merger is sending (R178): nothing, a part message with its octets still to go, or a forwarded message, of
which no octet has left yet where it is only `begun`. -/
inductive Sending where
  | none
  | part (left : List Byte)
  | begun
  | forwarded
  deriving DecidableEq, Repr

/-- The Trunk Interface (R168 to R179). -/
structure Trunk where
  downAlign : Align
  upAlign : Align
  downGood : Nat
  downBad : Nat
  upGood : Nat
  upBad : Nat
  timerRunning : Bool
  frameCount : Nat
  downRx : Reception
  upRx : Reception
  downBuf : List Item
  upBuf : List Item
  sending : Sending
  /-- the kind sent last counts as a part message -/
  lastPart : Bool
  address : Byte
  /-- the last frame sent from the Down port -/
  downSent : List Byte
  /-- the last frame sent from the Up port -/
  upSent : List Byte
  deriving DecidableEq, Repr

/-! ### Message Processor -/

/-- A good message taken by the part (R173, R177). -/
structure Request where
  dest : Byte
  source : Byte
  type : Byte
  tag : Byte
  payload : List Byte
  deriving DecidableEq, Repr

/-- Stored words of Parameter Memory: addresses strictly rising, no entry equal to its power-on value. -/
abbrev ParamMem := List (Nat × Word)

/-- The Message Processor (R176, R177, R180, R188, R189, R156, R192). -/
structure MsgProc where
  requests : List Request
  outbound : List (List Byte)
  reserved : Nat
  finished : List Handle
  /-- the CHANGE pending set: item numbers strictly rising, each with its latest value -/
  changes : List (Nat × Nat)
  params : ParamMem
  device : DeviceState
  prior : Option DeviceState
  resetting : Bool
  requestErrors : Nat
  requestOverflows : Nat
  downDiscards : Nat
  upDiscards : Nat
  downLosses : Nat
  upLosses : Nat
  deriving DecidableEq, Repr

/-! ### Work inside a command -/

/-- Which events keyed to the latest frame count are still to be taken (DEDUCED, log entry 5). Of the duck step, which
its own frame event already mixed with, what is left is to store the ducks it moves; the zones OWNED at that frame event
are kept for it (R39). -/
structure Owed where
  duck : Option ZoneSet
  limiter : Bool
  compensation : Bool
  second : Bool
  deriving DecidableEq, Repr

/-- One piece of the inner work of a command: what one block asks of another (00_scope.md, section 2.2).
A command's pieces are done in order, a piece's own pieces before those after it (DESIGN CHOICE, log entry 6). -/
inductive Task where
  /-- a channel begins its current element; `armed` when a start report is due on element 0 (R81, R82) -/
  | beginElement (channel : ChanId) (armed : Bool)
  /-- a channel's current element has ended (R85) -/
  | endElement (channel : ChanId)
  /-- the end of a channel's current element is taken, if it has run out when its turn comes (R85) -/
  | takeEnd (channel : ChanId)
  /-- after an element end, the channel begins the next element, if it still plays for the record (R85) -/
  | beginNext (channel : ChanId) (ref : RecRef)
  /-- a looping channel leaves its loop wait (R85) -/
  | endLoopWait (channel : ChanId)
  /-- AC resumes the record's channel (R88) -/
  | resume (ref : RecRef)
  /-- the channel of a record that PAUSED as an element of it ended is paused, if the record is still PAUSED (R87) -/
  | pauseAfter (ref : RecRef)
  /-- a channel became IDLE: the waiting evacuation record is given it (R163) -/
  | channelIdle
  /-- the record is at an element boundary (R10, R17, R22) -/
  | boundary (ref : RecRef)
  /-- a pending claim on the zone matures at its owner's element end (R10) -/
  | mature (zone : ZoneId) (ref : RecRef)
  /-- the zone's reservation takes it (R17) -/
  | takeReserved (zone : ZoneId) (ref : RecRef)
  /-- the record joins the zone if it is wanted, or leaves a waiting entry (R22) -/
  | joinWanted (zone : ZoneId) (ref : RecRef)
  /-- the record claims the zone if it is wanted (R56, R22 for pages) -/
  | claimWanted (zone : ZoneId) (ref : RecRef)
  /-- the record takes the zone if it is wanted and FREE (R56) -/
  | claimFree (zone : ZoneId) (ref : RecRef)
  /-- the record releases the zone it owns (R13) -/
  | releaseOwned (zone : ZoneId) (ref : RecRef)
  /-- the release choice from its second step (R14), made without a record whose reservation was dropped (R17) -/
  | choose (zone : ZoneId) (without : Option RecRef)
  /-- the release choice goes on to the stack (R15, R16) -/
  | popStack (zone : ZoneId)
  /-- the evacuation take (R23) -/
  | evacTake (zone : ZoneId)
  /-- the fallback of a tripped zone is added (R21) -/
  | addFallback (zone : ZoneId)
  /-- the channel reported completion (R59) -/
  | complete (ref : RecRef)
  /-- a record ends (R58) -/
  | endRecord (ref : RecRef) (outcome : EndOutcome)
  /-- the last steps of an ending (R58) -/
  | finishRecord (ref : RecRef) (outcome : EndOutcome)
  /-- a QUEUED record starts (R55), seizing a channel if it must (R54) -/
  | start (ref : RecRef)
  /-- the starting record is resolved and claims its zones (R55) -/
  | resolveAndClaim (ref : RecRef)
  /-- the starting record claims the zone if it is available (R55) -/
  | claimAtStart (zone : ZoneId) (ref : RecRef)
  /-- the starting record becomes PLAYING or PAUSED (R55) -/
  | finishStart (ref : RecRef)
  /-- the opened page's start set is formed (R57, R60) -/
  | formPageStart (ref : RecRef)
  /-- the admission pass runs if a cause is noted (R53) -/
  | passIfDue
  /-- the walk of the pass goes on after the given place in the queue (R53) -/
  | passVisit (after : Option Nat)
  /-- after the walk, PAUSED records claim their wanted zones (R56) -/
  | rejoinPaused
  /-- one PAUSED record claims its wanted zones, or ends with NO_ZONE (R56) -/
  | rejoinRecord (ref : RecRef)
  /-- then PLAYING records take wanted zones that are FREE (R56) -/
  | rejoinPlaying
  /-- the evacuation record is built (R161, R162) -/
  | buildEvac (body : Body) (template : Nat) (zones : ZoneSet)
  /-- the evacuation record is replaced in place: mode, set, releases and takes (R165) -/
  | replaceEvac (body : Body) (template : Nat) (zones : ZoneSet)
  /-- the replaced evacuation record's channel is handled (R165) -/
  | evacChannel (hadChannel : Option ChanId)
  /-- the evacuation record's start set is formed (R57) -/
  | formEvacStart
  /-- the evacuation template is resolved and its channel started (R163) -/
  | startEvac
  /-- the evacuation record's ANN_DONE is placed and handle 63 freed (R44, R166) -/
  | placeEvacDone
  /-- the next turn of the line test scan (R139) -/
  | scanTurn
  /-- FAULT_CLEAR clears a zone (R153) -/
  | clearZone (zone : ZoneId)
  /-- the zones FAULT_CLEAR leaves fit for a test are placed (R154) -/
  | placeCleared (mask : ZoneSet)
  /-- ZS takes a zone's sense word (R136) -/
  | senseWord (zone : ZoneId) (word : Word)
  /-- the limiter step of one zone (R145) -/
  | limiterZone (zone : ZoneId)
  /-- the events of the latest frame count still owed, and timers that have run out, are taken -/
  | takeOwed
  /-- the loop waits of looping channels end, before the frame event's emission (R85) -/
  | loopWaits
  /-- the frame event proper: source samples, and the frame's control octet and message octets when the
  message channel is received (R26, R83, R167, R168, R173) -/
  | frameEvent (slots : List Word) (message : Option (Byte × List Byte))
  /-- the sync octet of a downstream frame moves the alignment of an ALIGNED direction (R169) -/
  | downSync (good : Bool)
  /-- the call record in the slot is rewritten (R117) -/
  | rewriteCall (slot : CallSlot) (call : Call)
  /-- the slot is freed (R118) -/
  | freeCall (slot : CallSlot)
  /-- the noted triggers are re-armed (R127, R129) -/
  | rearm (slot : CallSlot) (triggers : List (Fin 6))
  /-- the elements that have ended are taken, in ascending channel order (R85, R87) -/
  | takeEnds
  /-- the immediate effects of a write of a zone's configuration: the zone's word 0 before the write, whether word
  0 was written, and whether Aref, slope or Cmax was (R5, R6, R143, R147, R148, R149) -/
  | zoneWritten (zone : ZoneId) (before : Word) (control blanks : Bool)
  /-- the RESULT of a request is placed in its reserved place (R180) -/
  | result (request : Request) (code : Nat) (items : List Byte)
  deriving DecidableEq, Repr

/-! ### The state -/

/-- The state of the part. -/
structure State where
  /-- the reset pin is held (R167) -/
  pinHeld : Bool
  ti : Trunk
  mp : MsgProc
  zones : Vector Zone 24
  scan : Scan
  recs : Vector (Option Rec) 64
  /-- the sequence counter (R45) -/
  seqCounter : Nat
  /-- a cause of the admission pass is noted (R53) -/
  passDue : Bool
  chans : Vector Channel 6
  port : Port
  /-- the skipped-element count (R78) -/
  skipped : Nat
  calls : Vector (Option Call) 256
  clock : Clock
  /-- the model's own: how many frames the part has sent, the argument of the free octets they carry -/
  framesSent : Nat
  /-- the model's own: events of the frame count still to be taken -/
  owed : Owed
  /-- the model's own: inner work still to be done -/
  work : List Task
  /-- the model's own: the commands that wait, first in, first out -/
  pending : List Instr
  deriving DecidableEq, Repr

/-- No command of the RA624 stops the part: no constructor. Every check the spec names is answered in State
(a result code, a counter, a latched state), and every step has a next state. -/
inductive Fault where
  deriving DecidableEq, Repr

/-- Why a command is turned away. -/
inductive Refusal where
  /-- Raised by `exec` alone, for a command with no meaning yet. Safe: the model stops where the part goes on.
  No arm of this model raises it. -/
  | notModelled (mnemonic : String)
  deriving DecidableEq, Repr

/-! ### The state after reset -/

/-- A zone after power-on reset (R3, R25, R135, with the configured limiter mode TRIP and timeout 2 s). -/
def Zone.init : Zone where
  own := .disabled
  stack := []
  lastReleased := none
  duck := 0
  clip := 0
  line := .untested
  trip := .none
  overCount := 0
  appliedMode := .trip
  appliedTimeout := .s2
  tripOverride := false
  limActive := false
  limR := 0
  elapsed := 0
  aboveSince := .none
  cTarget := 0
  comp := 0
  blankUntil := none
  noReport := 0

/-- A channel after either reset (R79). -/
def Channel.init : Channel where
  state := .idle
  bound := none
  index := 0
  cur := .none
  fifo := []
  inFlight := false
  loop := false
  loopWait := false
  endFlag := false
  underrun := 0
  startArmed := false

/-- No message in reception. -/
def Reception.init : Reception := ⟨false, [], false, false⟩

/-- The Trunk Interface after power-on reset, with the straps at 0 (R168, R169, R172, R178, R179). -/
def Trunk.init : Trunk where
  downAlign := .search
  upAlign := .search
  downGood := 0
  downBad := 0
  upGood := 0
  upBad := 0
  timerRunning := true
  frameCount := 0
  downRx := .init
  upRx := .init
  downBuf := []
  upBuf := []
  sending := .none
  lastPart := true
  address := 0
  downSent := []
  upSent := []

/-- The Message Processor after power-on reset (chapter 11's table of MP's state, R156, R176). -/
def MsgProc.init : MsgProc where
  requests := []
  outbound := []
  reserved := 0
  finished := []
  changes := []
  params := []
  device := .config
  prior := none
  resetting := false
  requestErrors := 0
  requestOverflows := 0
  downDiscards := 0
  upDiscards := 0
  downLosses := 0
  upLosses := 0

/-- The scan after power-on reset: the interval timer starts with the power-on scan interval, 60 s (R138). -/
def Scan.init : Scan := ⟨false, [], [], none, some 960000⟩

/-- The port after power-on reset (R91). -/
def Port.init : Port := ⟨none, 5, false, false, []⟩

/-- The part right after power-on reset, at the release of the reset pin, with the straps at 0 (DESIGN CHOICE, log
entry 2). -/
def State.reset : State where
  pinHeld := false
  ti := .init
  mp := .init
  zones := .replicate 24 .init
  scan := .init
  recs := .replicate 64 none
  seqCounter := 0
  passDue := false
  chans := .replicate 6 .init
  port := .init
  skipped := 0
  calls := .replicate 256 none
  clock := ⟨0, 0, false⟩
  framesSent := 0
  owed := ⟨none, false, false, false⟩
  work := []
  pending := []

end Sys2Proof.Machine
end

