-- ==== Sys2Proof/Machine/Params.lean ====
section
/-! DEFINITION. Parameter Memory: power-on values, reading, writing in canonical form, which words exist, which
may be written, which codes exist, how fields are clamped (R1, R64, R66, R73, R75, R106, R183, R185, R197), and
the fields each block reads. -/

namespace Sys2Proof.Machine

/-! ### Sets of zones -/

/-- The zone is in the set. -/
def hasZone (m : ZoneSet) (z : ZoneId) : Bool := m.getLsbD z.val
/-- The set holding one zone. -/
def oneZone (z : ZoneId) : ZoneSet := BitVec.ofNat 24 (1 <<< z.val)
/-- The set with the zone in it. -/
def withZone (m : ZoneSet) (z : ZoneId) : ZoneSet := m ||| oneZone z
/-- The set without the zone. -/
def withoutZone (m : ZoneSet) (z : ZoneId) : ZoneSet := m &&& ~~~(oneZone z)
/-- All zones, ascending. -/
def allZones : List ZoneId := List.finRange 24
/-- The zones of a set, ascending. -/
def zonesOf (m : ZoneSet) : List ZoneId := allZones.filter (hasZone m)
/-- The set of the zones for which the test holds. -/
def zonesWhere (p : ZoneId → Bool) : ZoneSet :=
  allZones.foldl (fun m z => if p z then withZone m z else m) 0

/-! ### Bit fields -/

/-- Bits `lo .. lo + len - 1` of a word. -/
def bits (w : Word) (lo len : Nat) : Nat := (w.toNat >>> lo) % 2 ^ len

/-- The word with only the bits of the mask kept. -/
def keep (w : Word) (mask : Nat) : Word := w &&& BitVec.ofNat 16 mask

/-! ### The store -/

/-- Power-on value of every stored word (R197). -/
def paramDefault (a : Nat) : Word :=
  if a < 0x10 then
    (match a with
      | 0 => 512 | 1 => 30 | 2 => 16 | 3 => 3 | 4 => 120 | 5 => 10 | 6 => 60 | _ => 0)
  else if a < 0x100 then 0
  else if a < 0x280 then
    (match a % 16 with
      | 0 => 0x0110 | 3 => BitVec.ofInt 16 (-20) | 4 => 24 | 5 => 0xFFFF | 6 => 160 | 7 => 25 | 8 => 400
      | 9 => 8 | 10 => 60 | 11 => 2 | 12 => 12 | _ => 0)
  else if a < 0x300 then 0
  else if a ≤ 0x3A0 then 0xFFFF
  else if a < 0x400 then 0
  else if a < 0xC00 then 0xC000
  else if a < 0xF00 then (if a % 4 = 2 then 4 else 0)
  else 0

/-- The listed word at an address, if it is listed. -/
def findWord : ParamMem → Nat → Option Word
  | [], _ => none
  | (b, w) :: rest, a => if a = b then some w else findWord rest a

/-- The stored word at an address: the listed one, or the power-on value. -/
def readWord (m : ParamMem) (a : Nat) : Word := (findWord m a).getD (paramDefault a)

/-- Stores a word, keeping the canonical form: a word equal to its power-on value is not listed. -/
def writeWord : ParamMem → Nat → Word → ParamMem
  | [], a, v => if v = paramDefault a then [] else [(a, v)]
  | (b, w) :: rest, a, v =>
    if a < b then (if v = paramDefault a then (b, w) :: rest else (a, v) :: (b, w) :: rest)
    else if a = b then (if v = paramDefault a then rest else (a, v) :: rest)
    else (b, w) :: writeWord rest a v

/-- The canonical form, with every listed address above `low`. -/
def paramsWfFrom : Option Nat → ParamMem → Bool
  | _, [] => true
  | low, (a, v) :: rest =>
    (match low with | some l => decide (l < a) | none => true) && decide (v ≠ paramDefault a) &&
      paramsWfFrom (some a) rest

/-- The canonical form: addresses strictly rising, no entry equal to the word's power-on value. -/
def ParamMem.wf (m : ParamMem) : Bool := paramsWfFrom none m

/-! ### Regions (R183, R197) -/

/-- Word `o` of zone `z`'s configuration. -/
def zoneWordAddr (z o : Nat) : Nat := 0x100 + 16 * z + o
/-- Zone `z`'s clip counter word. -/
def clipAddr (z : Nat) : Nat := 0x3040 + 16 * z + 5
/-- Channel `k`'s underrun counter word. -/
def underrunAddr (k : Nat) : Nat := 0x3200 + 16 * k + 5
/-- The skipped-element count word. -/
def skippedAddr : Nat := 0x3000 + 21
/-- The first of the six link counter words. -/
def linkAddr : Nat := 0x3000 + 22

/-- The zone whose clip counter stands at the address. -/
def clipZone (a : Nat) : Option ZoneId := allZones.find? fun z => a == clipAddr z.val
/-- The channel whose underrun counter stands at the address. -/
def underrunChan (a : Nat) : Option ChanId := (List.finRange 6).find? fun k => a == underrunAddr k.val
/-- The number of the link counter at the address. -/
def linkIndex (a : Nat) : Option Nat := if linkAddr ≤ a ∧ a < linkAddr + 6 then some (a - linkAddr) else none

/-- The word is one of the clearing counters (R183). -/
def isCounterWord (a : Nat) : Bool :=
  (clipZone a).isSome || (underrunChan a).isSome || a == skippedAddr || (linkIndex a).isSome

/-- The word lies in a region (R183). -/
def readable (a : Nat) : Bool :=
  decide (a < 0x15) || (decide (0x100 ≤ a) && decide (a < 0x2C2)) ||
    (decide (0x300 ≤ a) && decide (a ≤ 0x3A0)) || (decide (0x400 ≤ a) && decide (a < 0xF00)) ||
    (decide (0x1000 ≤ a) && decide (a < 0x2107)) ||
    (decide (0x3000 ≤ a) && decide (a ≤ 0x325F))

/-- The word lies in a zone's configuration. -/
def isZoneWord (a : Nat) : Bool := decide (0x100 ≤ a) && decide (a < 0x280)

/-- The word holds no field: spare words of the device settings and of a zone's sixteen (R183). -/
def isSpareWord (a : Nat) : Bool :=
  (decide (7 ≤ a) && decide (a < 0x10)) || (isZoneWord a && decide (13 ≤ a % 16))

/-- The word may be written (R183). -/
def writable (a : Nat) : Bool :=
  (readable a && decide (a < 0x3000) && !isSpareWord a) || isCounterWord a

/-- Every code the word holds exists (R1, R64, R66, R73, R106, R185). -/
def codesExist (a : Nat) (v : Word) : Bool :=
  if isZoneWord a then
    (match a % 16 with
      | 0 => decide (bits v 5 3 ≤ 3)
      | 2 => decide (v.toNat ≤ 8)
      | 5 => v == 0xFFFF || (decide (v.toNat ≤ 23) && v.toNat != (a - 0x100) / 16)
      | _ => true)
  else if 0x300 ≤ a ∧ a ≤ 0x3A0 then v == 0xFFFF || decide (v.toNat ≤ 1023)
  else if 0x400 ≤ a ∧ a < 0xC00 then bits v 14 2 != 1 || decide (bits v 0 4 ≤ 8)
  else if 0xC00 ≤ a ∧ a < 0xF00 then
    (match a % 4 with
      | 0 => decide (bits v 0 8 ≤ 127)
      | 2 => decide (2 ≤ bits v 0 3) && decide (bits v 0 3 ≤ 4)
      | _ => true)
  else if 0x1000 ≤ a ∧ a < 0x2000 then (if a % 4 = 2 then decide (bits v 14 2 ≤ 1) else true)
  else true

/-- A number clamped to a range of naturals. -/
def clampWord (lo hi : Nat) (v : Word) : Word := BitVec.ofNat 16 (clampNat lo hi v.toNat)
/-- A number in two's complement clamped to its range. -/
def clampSigned (lo hi : Int) (v : Word) : Word := BitVec.ofInt 16 (clampInt lo hi v.toInt)

/-- An element word as it is stored: the spare bits read 0, a GAP of 0 is 1 (R64, DEDUCED, log entry 15 for END). -/
def storedElement (v : Word) : Word :=
  match bits v 14 2 with
  | 0 => keep v 0xE3FF
  | 1 => keep v 0xE00F
  | 2 => if bits v 0 8 = 0 then keep v 0xE000 ||| 1 else keep v 0xE0FF
  | _ => keep v 0xE000

/-- The word as R185 stores it: numeric fields clamped to the nearer end, spare bits 0, every other field as
given. -/
def storedWord (a : Nat) (v : Word) : Word :=
  if a < 0x10 then
    (match a with
      | 0 => clampWord 0 32767 v
      | 1 => clampWord 5 120 v
      | 2 => clampWord 1 256 v
      | 3 => clampWord 0 60 v
      | 4 => clampWord 0 600 v
      | 5 => clampWord 1 120 v
      | 6 => clampWord 10 600 v
      | _ => v)
  else if a < 0x15 then clampSigned (-24) 12 v
  else if isZoneWord a then
    (match a % 16 with
      | 0 => keep v 0x03FF
      | 1 => clampSigned (-120) 12 v
      | 3 => clampSigned (-120) 0 v
      | 4 => clampWord 0 60 v
      | 6 => clampWord 1 4095 v
      | 7 => clampWord 5 50 v
      | 8 => clampWord 1 4095 v
      | 9 => clampWord 1 64 v
      | 10 => clampWord 30 100 v
      | 11 => clampWord 0 4 v
      | 12 => clampWord 0 24 v
      | _ => v)
  else if 0x280 ≤ a ∧ a < 0x2C2 then (if a % 2 = 1 then keep v 0x00FF else v)
  else if 0x400 ≤ a ∧ a < 0xC00 then storedElement v
  else if 0xC00 ≤ a ∧ a < 0xF00 then
    (match a % 4 with
      | 1 => clampSigned (-120) 30 v
      | 2 => keep v 0x8007
      | 3 => clampWord 0 3600 v
      | _ => v)
  else if 0x1000 ≤ a ∧ a < 0x2000 then
    (match a % 4 with
      | 0 => keep v 0x00FF
      | 2 => keep v 0xC00F
      | _ => v)
  else if a = 0x2106 then keep v 0x000F
  else v

/-! ### Fields -/

/-- The stored word at an address. -/
def State.word (s : State) (a : Nat) : Word := readWord s.mp.params a

/-- Word `o` of a zone's configuration. -/
def State.zoneWord (s : State) (z : ZoneId) (o : Nat) : Word := s.word (zoneWordAddr z.val o)

/-- Page activity threshold (R25). -/
def State.activityThreshold (s : State) : Nat := (s.word 0).toNat
/-- Page default hang time in seconds (R60). -/
def State.defaultHang (s : State) : Nat := (s.word 1).toNat
/-- Phrase store size in octets (R75). -/
def State.storeSize (s : State) : Nat := (s.word 2).toNat * 65536
/-- Late threshold in minutes (R101). -/
def State.lateThreshold (s : State) : Nat := (s.word 3).toNat
/-- Catch-up window in seconds (R111). -/
def State.catchUp (s : State) : Nat := (s.word 4).toNat
/-- Retire delay in minutes (R119). -/
def State.retireDelay (s : State) : Nat := (s.word 5).toNat
/-- Scan interval in seconds (R138). -/
def State.scanInterval (s : State) : Nat := (s.word 6).toNat

/-- The field enable (R1). -/
def State.enabled (s : State) (z : ZoneId) : Bool := (s.zoneWord z 0).getLsbD 0
/-- The field night-active (R1). -/
def State.nightActive (s : State) (z : ZoneId) : Bool := (s.zoneWord z 0).getLsbD 1
/-- The field line test enable (R1). -/
def State.lineTestOn (s : State) (z : ZoneId) : Bool := (s.zoneWord z 0).getLsbD 2
/-- The field compensation enable (R1). -/
def State.compOn (s : State) (z : ZoneId) : Bool := (s.zoneWord z 0).getLsbD 3
/-- The field short response is ISOLATE (R1). -/
def State.isolates (s : State) (z : ZoneId) : Bool := (s.zoneWord z 0).getLsbD 4

/-- The limiter mode of a zone's word 0 (R197). -/
def limiterModeOf (w : Word) : LimiterMode :=
  match bits w 5 3 with
  | 0 => .trip
  | 1 => .regulate
  | 2 => .regulateThenMute
  | _ => .regulateThenTrip

/-- The limiter timeout of a zone's word 0 (R197). -/
def limiterTimeoutOf (w : Word) : LimiterTimeout :=
  match bits w 8 2 with
  | 0 => .s1
  | 1 => .s2
  | 2 => .s4
  | _ => .s8

/-- The configured limiter mode (R1). -/
def State.limiterMode (s : State) (z : ZoneId) : LimiterMode := limiterModeOf (s.zoneWord z 0)
/-- The configured limiter timeout (R1). -/
def State.limiterTimeout (s : State) (z : ZoneId) : LimiterTimeout := limiterTimeoutOf (s.zoneWord z 0)
/-- Base gain Gz (R1). -/
def State.baseGain (s : State) (z : ZoneId) : Int := (s.zoneWord z 1).toInt
/-- Background source (R1). -/
def State.background (s : State) (z : ZoneId) : Option SlotId :=
  match (s.zoneWord z 2).toNat with
  | 0 => none
  | n + 1 => some (Fin.ofNat 8 n)
/-- Background gain Gbg (R1). -/
def State.backgroundGain (s : State) (z : ZoneId) : Int := (s.zoneWord z 3).toInt
/-- Duck depth D (R1). -/
def State.duckDepth (s : State) (z : ZoneId) : Nat := (s.zoneWord z 4).toNat
/-- Fallback zone (R1). -/
def State.fallback (s : State) (z : ZoneId) : Option ZoneId :=
  let n := (s.zoneWord z 5).toNat
  if h : n < 24 then some ⟨n, h⟩ else none
/-- Nominal load code (R1). -/
def State.nominalLoad (s : State) (z : ZoneId) : Nat := (s.zoneWord z 6).toNat
/-- Tolerance percent (R1). -/
def State.tolerance (s : State) (z : ZoneId) : Nat := (s.zoneWord z 7).toNat
/-- Overcurrent threshold (R1). -/
def State.overcurrent (s : State) (z : ZoneId) : Nat := (s.zoneWord z 8).toNat
/-- Deglitch count (R1). -/
def State.deglitch (s : State) (z : ZoneId) : Nat := (s.zoneWord z 9).toNat
/-- Aref (R1). -/
def State.aref (s : State) (z : ZoneId) : Nat := (s.zoneWord z 10).toNat
/-- Slope s (R1). -/
def State.slope (s : State) (z : ZoneId) : Nat := (s.zoneWord z 11).toNat
/-- Cmax (R1). -/
def State.compMax (s : State) (z : ZoneId) : Nat := (s.zoneWord z 12).toNat

/-- A zone set held in two words: zones 0..15, then zones 16..23 in the low octet (R197). -/
def State.zoneSetAt (s : State) (a : Nat) : ZoneSet :=
  BitVec.ofNat 24 ((s.word a).toNat + bits (s.word (a + 1)) 0 8 * 65536)
/-- The platform table's set of a platform 1..32 (R107). -/
def State.platformZones (s : State) (p : Nat) : ZoneSet := s.zoneSetAt (0x280 + 2 * (p - 1))
/-- The concourse set (R107). -/
def State.concourse (s : State) : ZoneSet := s.zoneSetAt 0x2C0

/-- A phrase id or "none" (R66). -/
def phraseOf (w : Word) : Option Nat := if w = 0xFFFF then none else some w.toNat
/-- The number table's entry (R66). -/
def State.numberPhrase (s : State) (n : Nat) : Option Nat := phraseOf (s.word (0x300 + n))
/-- The minute table's entry (R66). -/
def State.minutePhrase (s : State) (n : Nat) : Option Nat := phraseOf (s.word (0x364 + n))
/-- The overflow phrase (R66). -/
def State.overflowPhrase (s : State) : Option Nat := phraseOf (s.word 0x3A0)

/-- The element words of a template (R64). -/
def State.templateWords (s : State) (t : Nat) : List Word :=
  (List.range 16).map fun e => s.word (0x400 + 16 * t + e)
/-- The word is of kind END. -/
def isEndWord (w : Word) : Bool := bits w 14 2 == 3
/-- A template's elements: the words before the first END (R65). -/
def State.templateElements (s : State) (t : Nat) : List Word :=
  (s.templateWords t).takeWhile fun w => !isEndWord w
/-- The template's word 0 is END (R65). -/
def State.templateEmpty (s : State) (t : Nat) : Bool := isEndWord (s.word (0x400 + 16 * t))

/-- A word of a trigger point (R197). -/
def State.planWord (s : State) (plan : Nat) (i : Fin 6) (o : Nat) : Word :=
  s.word (0xC00 + 24 * plan + 4 * i.val + o)

/-- The directory entry of a phrase as its words stand (R73, R197). -/
def State.dirEntry (s : State) (id : Nat) : DirEntry where
  start := bits (s.word (0x1000 + 4 * id)) 0 8 * 65536 + (s.word (0x1000 + 4 * id + 1)).toNat
  length := bits (s.word (0x1000 + 4 * id + 2)) 0 4 * 65536 + (s.word (0x1000 + 4 * id + 3)).toNat
  encoding := if bits (s.word (0x1000 + 4 * id + 2)) 14 2 = 1 then .compressed8 else .linear16

/-- A word of the expansion table (R76). -/
def State.expansion (s : State) (b : Byte) : Word := s.word (0x2000 + b.toNat)

/-- The change mask bit of an item (R189, R197). -/
def State.masked (s : State) (item : Nat) : Bool := (s.word (0x2100 + item / 16)).getLsbD (item % 16)

/-- The class trim (R25, R197). -/
def State.trim (s : State) (c : Cls) : Int :=
  (s.word (match c with
    | .emergency => 0x10 | .live => 0x11 | .safety => 0x12 | .call => 0x13 | .info => 0x14)).toInt

end Sys2Proof.Machine
end

