-- ==== Sys2Proof/Machine/Flags.lean ====
section
/-! DEFINITION. Codes of the values the outside sees (R195, R196, R197), urgency (00_scope.md, section 3.5), and
the flags and conditions that are computed from other state: the compensation status (R150), the L flag (R101),
the condition codes (R109), the station-time arithmetic of CS (R105). -/

namespace Sys2Proof.Machine

/-! ### Urgency -/

/-- Order in urgency, 0 the most urgent. -/
def Cls.rank : Cls → Nat
  | .emergency => 0
  | .live => 1
  | .safety => 2
  | .call => 3
  | .info => 4

/-- `a` is strictly more urgent than `b`. -/
def moreUrgent (a b : Cls) : Bool := decide (a.rank < b.rank)

/-! ### Codes -/

/-- The class of a code (R195). -/
def clsOfCode : Nat → Option Cls
  | 0 => some .emergency
  | 1 => some .live
  | 2 => some .safety
  | 3 => some .call
  | 4 => some .info
  | _ => none

/-- CONFIG 0, RUN 1, QUIET 2, EVAC 3. -/
def DeviceState.code : DeviceState → Nat
  | .config => 0
  | .run => 1
  | .quiet => 2
  | .evac => 3

/-- SEARCH 0, ALIGNED 1, HOLDOVER or LOST 2. -/
def Align.code : Align → Nat
  | .search => 0
  | .aligned => 1
  | .lost => 2

/-- MANUAL 0, TIMETABLE 1, PAGE 2, EVAC 3. -/
def Origin.code : Origin → Nat
  | .manual => 0
  | .timetable => 1
  | .page => 2
  | .evac => 3

/-- The outcome codes of R195. -/
def EndOutcome.code : EndOutcome → Nat
  | .complete => 0
  | .partly => 1
  | .cancelled => 2
  | .stale => 3
  | .noZone => 4
  | .amended => 5
  | .withdrawn => 6
  | .displaced => 7
  | .preempted => 8
  | .abortedEvac => 9
  | .abortedState => 10
  | .closed => 11
  | .hang => 12
  | .linkLost => 13

/-- DISABLED 0, FREE 1, OWNED 2, RESERVED 3, TRIPPED 4; a zone inside its release choice is still in the state it
comes from. -/
def Ownership.code : Ownership → Nat
  | .disabled => 0
  | .free => 1
  | .owned _ _ => 2
  | .reserved _ => 3
  | .tripped => 4
  | .choosing true _ => 2
  | .choosing false _ => 3

/-- UNTESTED 0, NORMAL 1, OPEN 2, SHORT 3, NO_REPORT 4. -/
def LineState.code : LineState → Nat
  | .untested => 0
  | .normal => 1
  | .openLine => 2
  | .shortLine => 3
  | .noReport => 4

/-- NONE 0, OVERLOAD 1, LIMIT_TIMEOUT 2, ISOLATED 3. -/
def TripState.code : TripState → Nat
  | .none => 0
  | .overload => 1
  | .limitTimeout => 2
  | .isolated => 3

/-- TRIP 0, REGULATE 1, REGULATE_THEN_MUTE 2, REGULATE_THEN_TRIP 3. -/
def LimiterMode.code : LimiterMode → Nat
  | .trip => 0
  | .regulate => 1
  | .regulateThenMute => 2
  | .regulateThenTrip => 3

/-- 1, 2, 4, 8 s as 0..3. -/
def LimiterTimeout.code : LimiterTimeout → Nat
  | .s1 => 0
  | .s2 => 1
  | .s4 => 2
  | .s8 => 3

/-- 20, 40, 80 or 160 limiter step events (R145). -/
def LimiterTimeout.steps : LimiterTimeout → Nat
  | .s1 => 20
  | .s2 => 40
  | .s4 => 80
  | .s8 => 160

/-- IDLE 0, LOADING 1, RUNNING 2, PAUSED 3. -/
def ChanState.code : ChanState → Nat
  | .idle => 0
  | .loading => 1
  | .running => 2
  | .paused => 3

/-- ARRIVAL 0, DEPARTURE 1. -/
def CallKind.code : CallKind → Nat
  | .arrival => 0
  | .departure => 1

/-- PLANNED 0, ARRIVED 1, DEPARTED 2, CANCELLED 3. -/
def CallState.code : CallState → Nat
  | .planned => 0
  | .arrived => 1
  | .departed => 2
  | .cancelled => 3

/-- PENDING 0, FIRED 1, NOT_MET 2, MISSED 3, SKIPPED 4, SUPPRESSED 5. -/
def TrigState.code : TrigState → Nat
  | .pending => 0
  | .fired => 1
  | .notMet => 2
  | .missed => 3
  | .skipped => 4
  | .suppressed => 5

/-! ### Zone flags -/

/-- The owner, when the zone is OWNED. -/
def Ownership.owner? : Ownership → Option RecRef
  | .owned r _ => some r
  | _ => none

/-- The zone has an owner; a zone inside its release choice still counts as it did before. -/
def Ownership.hasOwner : Ownership → Bool
  | .owned _ _ => true
  | .choosing b _ => b
  | _ => false

/-- Compensation status (R150): HELD 3 while the zone has an owner, else AT_TARGET 0, BELOW 1 or ABOVE 2 by
comparison of c with c_t. -/
def Zone.compStatus (z : Zone) : Nat :=
  if z.own.hasOwner then 3 else if z.comp < z.cTarget then 1 else if z.cTarget < z.comp then 2 else 0

/-- The word R144 calls: the zone is governed by the TRIP rule. -/
def Zone.underTripRule (z : Zone) : Bool := decide (z.appliedMode = .trip) || z.tripOverride

/-- The frame count has passed the given one (DEDUCED, log entry 12 for the wrap of the count). -/
def countPassed (now til : Nat) : Bool :=
  let d := (now + Config.frameCountModulus - til) % Config.frameCountModulus
  decide (0 < d) && decide (d < Config.frameCountModulus / 2)

/-- A frame count later by `n`. -/
def countAdd (c n : Nat) : Nat := (c + n) % Config.frameCountModulus

/-- Blanking is in force (R147, R155). -/
def State.blanked (s : State) (z : Zone) : Bool :=
  match z.blankUntil with
  | none => false
  | some til => !countPassed s.ti.frameCount til

/-! ### Station time and calls -/

/-- Station time as a count of seconds (R105). -/
def Clock.seconds (c : Clock) : Nat := c.day * Config.daySeconds + c.second

/-- The clock one second later (R103). -/
def Clock.tick (c : Clock) : Clock :=
  if c.second + 1 < Config.daySeconds then { c with second := c.second + 1 }
  else { c with second := 0, day := (c.day + 1) % 65536 }

/-- Scheduled time in seconds (R105). -/
def Call.scheduled (c : Call) : Nat := c.day * Config.daySeconds + c.minute * 60

/-- Expected time in seconds; the scheduled time when the delay is UNKNOWN (R105). -/
def Call.expected (c : Call) : Nat := c.scheduled + c.delay.getD 0 * 60

/-- The L flag (R101). -/
def lateFlag (threshold : Nat) : Option Nat → Bool
  | some d => decide (threshold ≤ d)
  | none => false

/-- The sixteen conditions of R109. -/
def conditionHolds (code : Nat) (c : Call) : Bool :=
  match code with
  | 0 => true
  | 1 => false
  | 2 => !c.late && !c.cancelled
  | 3 => c.late && !c.cancelled
  | 4 => c.cancelled
  | 5 => !c.cancelled
  | 6 => c.changed && !c.cancelled
  | 7 => !c.changed && !c.cancelled
  | 8 => (c.late || c.changed) && !c.cancelled
  | 9 => c.arrived && !c.departed
  | 10 => !c.arrived && !c.cancelled
  | 11 => c.late && !c.arrived && !c.cancelled
  | 12 => c.changed && !c.arrived && !c.cancelled
  | 13 => (c.late != c.changed) && !c.cancelled
  | 14 => c.departed
  | _ => !c.departed && !c.cancelled

/-- The five flags of a call as the CALL notice carries them, L in bit 0 (R196). -/
def Call.flagBits (c : Call) : Nat :=
  (if c.late then 1 else 0) + (if c.cancelled then 2 else 0) + (if c.changed then 4 else 0) +
    (if c.arrived then 8 else 0) + (if c.departed then 16 else 0)

/-- A call record due for retirement (R120, DEDUCED, log entry 17). -/
def Call.due (clock : Clock) (c : Call) : Bool :=
  clock.valid && (match c.retire with | some t => decide (t ≤ clock.seconds) | none => false)

end Sys2Proof.Machine
end

