-- ==== Sys2Proof/Machine/Operands.lean ====
section
/-! DEFINITION. Octets and fields: payload fields, the message format with its CRC, control octets, frames
(R173, R193, R194, R195, R196). -/

namespace Sys2Proof.Machine

/-! ### Fields of an octet sequence, most significant octet first (R193) -/

/-- The octet at a place, as a number. -/
def octet (p : List Byte) (i : Nat) : Nat := (p.getD i 0).toNat
/-- The two-octet field at a place. -/
def field2 (p : List Byte) (i : Nat) : Nat := octet p i * 256 + octet p (i + 1)
/-- The three-octet field at a place. -/
def field3 (p : List Byte) (i : Nat) : Nat := field2 p i * 256 + octet p (i + 2)
/-- The zone mask at a place: zone 0 in the least significant bit of the last octet (R193). -/
def maskAt (p : List Byte) (i : Nat) : ZoneSet := BitVec.ofNat 24 (field3 p i)
/-- The two-octet field at a place, as a word. -/
def wordAt (p : List Byte) (i : Nat) : Word := BitVec.ofNat 16 (field2 p i)
/-- `n` words from a place on. -/
def wordsAt (p : List Byte) (i : Nat) : Nat → List Word
  | 0 => []
  | n + 1 => wordAt p i :: wordsAt p (i + 2) n

/-- A number as one octet. -/
def put1 (n : Nat) : List Byte := [BitVec.ofNat 8 n]
/-- A number as two octets, most significant first. -/
def put2 (n : Nat) : List Byte := [BitVec.ofNat 8 (n / 256), BitVec.ofNat 8 n]
/-- A word as two octets. -/
def putWord (w : Word) : List Byte := put2 w.toNat
/-- A zone set as three octets. -/
def putMask (m : ZoneSet) : List Byte :=
  [BitVec.ofNat 8 (m.toNat / 65536), BitVec.ofNat 8 (m.toNat / 256), BitVec.ofNat 8 m.toNat]
/-- The "none" code of a one-octet field (R193). -/
def noneOctet : Nat := 0xFF
/-- A handle, or "none". -/
def handleOctet : Option Handle → Nat
  | some h => h.val
  | none => noneOctet

/-! ### Messages (R173) -/

/-- One bit of the CRC: the register shifts left, and the generator x^16 + x^12 + x^5 + 1 is added when a
one leaves it. -/
def crcShift : Nat → BitVec 16 → BitVec 16
  | 0, c => c
  | n + 1, c => crcShift n (if c.getLsbD 15 then (c <<< 1) ^^^ 0x1021#16 else c <<< 1)

/-- The CRC of octets, each taken most significant bit first, from the given value on. -/
def crcFrom : BitVec 16 → List Byte → BitVec 16
  | c, [] => c
  | c, o :: rest => crcFrom (crcShift 8 (c ^^^ (o.setWidth 16 <<< 8))) rest

/-- The CRC with initial value 0xFFFF and no final inversion. -/
def crcOf (octets : List Byte) : BitVec 16 := crcFrom 0xFFFF octets

/-- The broadcast address. -/
def broadcast : Byte := 0xFF

/-- A whole message: header, payload and CRC, high octet first (R173, R195). -/
def message (dest source : Byte) (type : Nat) (tag : Byte) (payload : List Byte) : List Byte :=
  let body := dest :: source :: BitVec.ofNat 8 type :: tag :: BitVec.ofNat 8 payload.length :: payload
  body ++ putWord (crcOf body)

/-- The message has 7 or more octets, and 7 plus its payload length equals its octet count (R173). -/
def lengthGood (m : List Byte) : Bool := decide (7 ≤ m.length) && decide (7 + octet m 4 = m.length)

/-- The CRC of header and payload equals the two CRC octets (R173). -/
def crcGood (m : List Byte) : Bool := decide (putWord (crcOf (m.take (m.length - 2))) = m.drop (m.length - 2))

/-- The message passes both checks. -/
def messageGood (m : List Byte) : Bool := lengthGood m && crcGood m

/-- The fields of a good message. -/
def requestOf (m : List Byte) : Request where
  dest := m.getD 0 0
  source := m.getD 1 0
  type := m.getD 2 0
  tag := m.getD 3 0
  payload := (m.drop 5).take (m.length - 7)

/-! ### Type codes and result codes (R195) -/

namespace TypeCode
/-- PARAM_WRITE -/ def paramWrite : Nat := 0x01
/-- PARAM_READ -/ def paramRead : Nat := 0x02
/-- STATE_SET -/ def stateSet : Nat := 0x03
/-- TIME_SET -/ def timeSet : Nat := 0x04
/-- CALL_SET -/ def callSet : Nat := 0x05
/-- CALL_DELETE -/ def callDelete : Nat := 0x06
/-- CALL_EVENT -/ def callEvent : Nat := 0x07
/-- ANNOUNCE -/ def announce : Nat := 0x08
/-- ANN_CANCEL -/ def annCancel : Nat := 0x09
/-- PAGE_OPEN -/ def pageOpen : Nat := 0x0A
/-- PAGE_CLOSE -/ def pageClose : Nat := 0x0B
/-- EVAC_START -/ def evacStart : Nat := 0x0C
/-- EVAC_END -/ def evacEnd : Nat := 0x0D
/-- FAULT_CLEAR -/ def faultClear : Nat := 0x0E
/-- RESET -/ def reset : Nat := 0x0F
/-- RESULT -/ def result : Nat := 0x80
/-- ANN_DONE -/ def annDone : Nat := 0x81
/-- CHANGE -/ def change : Nat := 0x82
/-- CALL -/ def call : Nat := 0x83
end TypeCode

namespace ResultCode
/-- OK -/ def ok : Nat := 0
/-- BAD_TYPE -/ def badType : Nat := 1
/-- BAD_LENGTH -/ def badLength : Nat := 2
/-- BAD_ADDRESS -/ def badAddress : Nat := 3
/-- BAD_VALUE -/ def badValue : Nat := 4
/-- NOT_ARMED -/ def notArmed : Nat := 5
/-- STATE -/ def state : Nat := 6
/-- BUSY -/ def busy : Nat := 7
/-- NO_HANDLE -/ def noHandle : Nat := 8
/-- QUEUE_FULL -/ def queueFull : Nat := 9
/-- NO_ZONE -/ def noZone : Nat := 10
/-- UNKNOWN_CALL -/ def unknownCall : Nat := 11
/-- UNKNOWN_HANDLE -/ def unknownHandle : Nat := 12
/-- TABLE_FULL -/ def tableFull : Nat := 13
end ResultCode

/-- The type octet names a request (R181, R195). -/
def typeIsRequest (t : Nat) : Bool := decide (1 ≤ t) && decide (t ≤ 15)

/-! ### The message channel (R173, R194) -/

/-- The valid count of a control octet; 5..7 are taken as an idle frame (R193). -/
def validCount (control : Byte) : Nat := if control.toNat % 8 ≤ 4 then control.toNat % 8 else 0
/-- The start flag. -/
def startFlag (control : Byte) : Bool := control.getLsbD 7
/-- The end flag. -/
def endFlag (control : Byte) : Bool := control.getLsbD 6

/-- A control octet. -/
def controlOctet (start fin : Bool) (valid : Nat) : Byte :=
  BitVec.ofNat 8 ((if start then 128 else 0) + (if fin then 64 else 0) + valid)

/-- The control octet and four message octets of a frame that carries the given octets, at most four. What the
octets beyond the valid count hold is a free value (DESIGN CHOICE, log entry 10). -/
def messageChannel (frame : Nat) (start fin : Bool) (octets : List Byte) : List Byte :=
  let valid := octets.take 4
  let n := valid.length
  (if n = 0 then controlOctet false false 0 else controlOctet start fin n) ::
    valid ++ ((List.range 4).drop n).map (Config.invalidOctet frame)

/-! ### Frames (R194) -/

/-- The good downstream sync octet. -/
def downSyncOctet : Byte := 0xA5
/-- The good upstream sync octet. -/
def upSyncOctet : Byte := 0x5A

/-- The eight source samples of a downstream frame. -/
def frameSlots (f : List Byte) : List Word := wordsAt f 1 8
/-- The control octet and message octets of a downstream frame. -/
def downMessage (f : List Byte) : Byte × List Byte := (f.getD 17 0, (f.drop 18).take 4)
/-- The 24 sense words of an upstream frame. -/
def senseWords (f : List Byte) : List Word := wordsAt f 1 24
/-- The control octet and message octets of an upstream frame. -/
def upMessage (f : List Byte) : Byte × List Byte := (f.getD 49 0, (f.drop 50).take 4)

/-- Zone command codes (R137, R194). -/
inductive ZoneCommand where
  | mute | play | test
  deriving DecidableEq, Repr

/-- MUTE 0, PLAY 1, TEST 2. -/
def ZoneCommand.code : ZoneCommand → Nat
  | .mute => 0
  | .play => 1
  | .test => 2

/-- Command octets: zone 4k in bits 7..6 of octet k, zone 4k + 3 in bits 1..0. -/
def commandOctets : List ZoneCommand → List Byte
  | a :: b :: c :: d :: rest =>
    BitVec.ofNat 8 (a.code * 64 + b.code * 16 + c.code * 4 + d.code) :: commandOctets rest
  | _ => []

/-- Sense word types (R136, R194); codes outside the four are taken as NONE. -/
inductive SenseType where
  | none | curr | load | amb
  deriving DecidableEq, Repr

/-- The type in bits 15..12 of a sense word. -/
def senseType (w : Word) : SenseType :=
  match w.toNat / 4096 with
  | 1 => .curr
  | 2 => .load
  | 3 => .amb
  | _ => .none

/-- The value in bits 11..0 of a sense word. -/
def senseValue (w : Word) : Nat := w.toNat % 4096

end Sys2Proof.Machine
end

