-- ==== Sys2Proof/Machine/Ops.lean ====
section
/-! DEFINITION. The named operations over the state that every block uses: writing a part of the state, noting
changes of CHANGE items (R189), looking records up (R2), the handle pool (R44, R45), the queue's order (R51), the
outbound queue (R180) and the built messages (R63, R190, R196). -/

namespace Sys2Proof.Machine

/-! ### Work -/

/-- Puts pieces of work before what is still to be done. -/
def State.push (s : State) (ts : List Task) : State := { s with work := ts ++ s.work }

/-- Notes a cause of the admission pass (R53). -/
def State.notePass (s : State) : State := { s with passDue := true }

/-! ### CHANGE items (R189) -/

/-- Item numbers: line state, trip state, compensation status and ownership state of a zone, then the device
items. -/
def lineItem (z : ZoneId) : Nat := 4 * z.val
/-- Trip state item. -/
def tripItem (z : ZoneId) : Nat := 4 * z.val + 1
/-- Compensation status item. -/
def compItem (z : ZoneId) : Nat := 4 * z.val + 2
/-- Ownership state item. -/
def ownItem (z : ZoneId) : Nat := 4 * z.val + 3
/-- Device state item. -/
def deviceItem : Nat := 96
/-- Downstream alignment item. -/
def downAlignItem : Nat := 97
/-- Upstream alignment item. -/
def upAlignItem : Nat := 98
/-- Clock validity item. -/
def clockItem : Nat := 99

/-- Puts an item into the pending set, replacing an older value; item numbers stay rising. -/
def putItem (k v : Nat) : List (Nat × Nat) → List (Nat × Nat)
  | [] => [(k, v)]
  | (j, w) :: rest =>
    if k < j then (k, v) :: (j, w) :: rest
    else if k = j then (k, v) :: rest
    else (j, w) :: putItem k v rest

/-- An item that changed value joins the pending set when its mask bit is set. -/
def State.noteItem (s : State) (k old new : Nat) : State :=
  if old = new then s
  else if s.masked k then { s with mp := { s.mp with changes := putItem k new s.mp.changes } } else s

/-! ### Writing parts of the state -/

/-- Writes a zone record and notes the changes of its four items. -/
def State.setZone (s : State) (z : ZoneId) (x : Zone) : State :=
  let o := s.zones[z]
  let s := { s with zones := s.zones.set z.val x z.isLt }
  let s := s.noteItem (lineItem z) o.line.code x.line.code
  let s := s.noteItem (tripItem z) o.trip.code x.trip.code
  let s := s.noteItem (compItem z) o.compStatus x.compStatus
  s.noteItem (ownItem z) o.own.code x.own.code

/-- Changes a zone record. -/
def State.modZone (s : State) (z : ZoneId) (f : Zone → Zone) : State := s.setZone z (f s.zones[z])

/-- Writes what a handle holds. -/
def State.setRec (s : State) (h : Handle) (x : Option Rec) : State :=
  { s with recs := s.recs.set h.val x h.isLt }

/-- Writes a channel. -/
def State.setChan (s : State) (k : ChanId) (c : Channel) : State :=
  { s with chans := s.chans.set k.val c k.isLt }

/-- Changes a channel. -/
def State.modChan (s : State) (k : ChanId) (f : Channel → Channel) : State := s.setChan k (f s.chans[k])

/-- Writes a slot of the call table. -/
def State.setCall (s : State) (i : CallSlot) (c : Option Call) : State :=
  { s with calls := s.calls.set i.val c i.isLt }

/-- Writes the device state and notes its change. -/
def State.setDevice (s : State) (d : DeviceState) : State :=
  let o := s.mp.device
  { s with mp := { s.mp with device := d } }.noteItem deviceItem o.code d.code

/-- Writes the downstream alignment state and notes its change. -/
def State.setDownAlign (s : State) (a : Align) : State :=
  let o := s.ti.downAlign
  { s with ti := { s.ti with downAlign := a } }.noteItem downAlignItem o.code a.code

/-- Writes the upstream alignment state and notes its change. -/
def State.setUpAlign (s : State) (a : Align) : State :=
  let o := s.ti.upAlign
  { s with ti := { s.ti with upAlign := a } }.noteItem upAlignItem o.code a.code

/-- Writes the station clock and notes a change of its validity. -/
def State.setClock (s : State) (c : Clock) : State :=
  let o := s.clock
  { s with clock := c }.noteItem clockItem (if o.valid then 1 else 0) (if c.valid then 1 else 0)

/-! ### Records -/

/-- The record a reference names, while the handle is allocated to it. -/
def State.recOf (s : State) (r : RecRef) : Option Rec :=
  match s.recs[r.handle] with
  | some x => if x.seq = r.seq then some x else none
  | none => none

/-- Changes the record a reference names. -/
def State.modRec (s : State) (r : RecRef) (f : Rec → Rec) : State :=
  match s.recOf r with
  | some x => s.setRec r.handle (some (f x))
  | none => s

/-- What the handles hold, with every record changed for which the test holds. -/
@[irreducible] def changeRecs (p : Rec → Bool) (f : Rec → Rec) (v : Vector (Option Rec) 64) : Vector (Option Rec) 64 :=
  Vector.ofFn fun h => (v[h]).map fun x => if p x then f x else x

/-- Changes every record for which the test holds. -/
def State.modRecs (s : State) (p : Rec → Bool) (f : Rec → Rec) : State := { s with recs := changeRecs p f s.recs }

/-- The zone cannot be covered by the record after this start (R9, R55). -/
def Rec.missesZone (z : ZoneId) (x : Rec) : Rec := { x with late := withZone x.late z }

/-- The zone cannot be covered by the record (R20). -/
def Rec.bar (z : ZoneId) (x : Rec) : Rec := { x with barred := withZone x.barred z }

/-- The zone joins the record's effective set and cannot be covered (R21). -/
def Rec.gainsThrough (f : ZoneId) (x : Rec) : Rec := { x.bar f with effective := withZone x.effective f }

/-- The live zones that can still be covered when element 0 begins (R57): R9, R20, R21 and R55 name those that cannot
(DEDUCED, log entry 50; how long they do not, DESIGN CHOICE, log entry 51). -/
def Rec.heard (x : Rec) : ZoneSet := x.live &&& ~~~(x.barred ||| x.late)

/-- The record is an announcement record. -/
def Rec.isAnnouncement (x : Rec) : Bool := match x.body with | .announcement => true | _ => false

/-- The record is current (R2): PLAYING, PAUSED or LIVE, or the evacuation record while it lasts. An announcement
inside its start is not yet PLAYING or PAUSED. DEDUCED, log entry 20. -/
def Rec.current (x : Rec) : Bool :=
  match x.state with
  | .playing | .paused | .live | .sounding | .channelWait => true
  | .starting => !x.isAnnouncement
  | .queued | .ending | .done => false

/-- The reference is current (R2). -/
def State.current (s : State) (r : RecRef) : Bool :=
  match s.recOf r with
  | some x => x.current
  | none => false

/-- The class of the record a reference names; INFO, the least urgent, when it names none. -/
def State.clsOf (s : State) (r : RecRef) : Cls :=
  match s.recOf r with
  | some x => x.cls
  | none => .info

/-- The record is a page. -/
def Rec.isPage (x : Rec) : Bool := match x.body with | .page _ _ _ _ => true | _ => false
/-- The record is PLAYING or PAUSED. -/
def Rec.playingOrPaused (x : Rec) : Bool := decide (x.state = .playing) || decide (x.state = .paused)
/-- The record has neither ended nor begun to end. -/
def Rec.unfinished (x : Rec) : Bool := decide (x.state ≠ .ending) && decide (x.state ≠ .done)

/-- The reference of the record under a handle. -/
def refAt (h : Handle) (x : Rec) : RecRef := ⟨h, x.seq⟩

/-- Inserts by a key, lowest first. -/
def insertByKey (k : Nat) (r : RecRef) : List (Nat × RecRef) → List (Nat × RecRef)
  | [] => [(k, r)]
  | (j, q) :: rest => if k < j then (k, r) :: (j, q) :: rest else (j, q) :: insertByKey k r rest

/-- The records for which the test holds, with their keys, lowest key first. -/
def State.sorted (s : State) (p : Rec → Bool) (key : Rec → Nat) : List (Nat × RecRef) :=
  (List.finRange 64).foldl (fun acc h =>
    match s.recs[h] with
    | some x => if p x then insertByKey (key x) (refAt h x) acc else acc
    | none => acc) []

/-- The records for which the test holds, in sequence-number order. -/
def State.bySequence (s : State) (p : Rec → Bool) : List RecRef := (s.sorted p Rec.seq).map Prod.snd

/-- The place class and sequence number give a record in the queue (R51). -/
def queueKey (x : Rec) : Nat := x.cls.rank * (Config.lastSequence + 1) + x.seq

/-- The record is QUEUED. -/
def Rec.isQueued (x : Rec) : Bool := decide (x.state = .queued)

/-- The queue with each record's place, in order (R51). -/
def State.queueKeyed (s : State) : List (Nat × RecRef) := s.sorted Rec.isQueued queueKey
/-- The queue, in order (R51). -/
def State.queue (s : State) : List RecRef := s.queueKeyed.map Prod.snd

/-- Handle 63, the evacuation handle (R44). -/
def evacHandle : Handle := 63
/-- The reference of the evacuation record: sequence number 0 (R45). -/
def evacRef : RecRef := ⟨evacHandle, 0⟩
/-- The evacuation record while it lasts. -/
def State.evacRec (s : State) : Option Rec :=
  match s.recOf evacRef with
  | some x => if x.unfinished then some x else none
  | none => none

/-- The lowest-numbered free handle of 0..62, while the sequence counter allows another (R44, R45). -/
def State.freeHandle (s : State) : Option Handle :=
  if s.seqCounter < Config.lastSequence then
    (List.finRange 64).find? fun h => decide (h.val < 63) && (s.recs[h]).isNone
  else none

/-- Allocates the handle to a record, which takes the next sequence number (R45). -/
def State.allocate (s : State) (h : Handle) (x : Rec) : State :=
  { (s.setRec h (some { x with seq := s.seqCounter + 1 })) with seqCounter := s.seqCounter + 1 }

/-- The open page of a source slot (R60). -/
def State.openPage (s : State) (slot : SlotId) : Option RecRef :=
  (s.bySequence fun x => decide (x.state = .live) &&
    (match x.body with | .page p _ _ _ => decide (p = slot) | _ => false)).head?

/-! ### Zones -/

/-- The zone is usable: enabled and not TRIPPED (R47). -/
def State.usable (s : State) (z : ZoneId) : Bool :=
  match s.zones[z].own with
  | .disabled | .tripped => false
  | _ => true

/-- The zone is TRIPPED. -/
def State.isTripped (s : State) (z : ZoneId) : Bool := decide (s.zones[z].own = .tripped)

/-- The class is one that QUIET restricts (R47, R53). -/
def quietClass (c : Cls) : Bool := decide (c = .call) || decide (c = .info)

/-- The effective zone set formed from a requested set (R47). -/
def State.formEffective (s : State) (requested : ZoneSet) (c : Cls) : ZoneSet :=
  let formed := zonesWhere fun z =>
    (hasZone requested z && s.usable z) ||
      (s.usable z && allZones.any fun t => hasZone requested t && s.isTripped t && decide (s.fallback t = some z))
  if s.mp.device = .quiet ∧ quietClass c then formed &&& zonesWhere s.nightActive else formed

/-! ### Messages the part sends -/

/-- Places a message at the tail of the outbound queue. -/
def State.placeOut (s : State) (m : List Byte) : State :=
  { s with mp := { s.mp with outbound := s.mp.outbound ++ [m] } }

/-- A RESULT (R180, R196). -/
def resultMessage (s : State) (q : Request) (code : Nat) (items : List Byte) : List Byte :=
  message q.source s.ti.address TypeCode.result q.tag (put1 code ++ items)

/-- Places a request's RESULT in its reserved place; the reservation then ends (R180). -/
def State.placeResult (s : State) (q : Request) (code : Nat) (items : List Byte) : State :=
  let s := s.placeOut (resultMessage s q code items)
  { s with mp := { s.mp with reserved := s.mp.reserved - 1 } }

/-- A notice: broadcast, with tag 0 (R187). -/
def noticeMessage (s : State) (type : Nat) (payload : List Byte) : List Byte :=
  message broadcast s.ti.address type 0 payload

/-- The payload of an ANN_DONE (R63, R196). -/
def annDonePayload (h : Handle) (x : Rec) : List Byte :=
  put1 h.val ++ put1 x.origin.code ++ put2 (x.callId.getD 0) ++
    put1 (match x.trigger with | some i => i.val | none => noneOctet) ++
    put1 ((x.outcome.map EndOutcome.code).getD 0) ++ put1 (if x.degraded then 1 else 0) ++
    putMask x.covered ++ putMask (x.effective &&& ~~~x.covered) ++ put1 (handleOctet x.repeatHandle)

/-- The payload of a CHANGE notice (R190, R196). -/
def changePayload (items : List (Nat × Nat)) : List Byte :=
  put1 items.length ++ items.flatMap fun p => put1 p.1 ++ put1 p.2

/-- The payload of a CALL notice (R102, R196). -/
def callPayload (i : CallSlot) (c : Call) : List Byte :=
  put2 c.id ++ put1 i.val ++ put1 c.kind.code ++ put1 c.state.code ++ put1 c.flagBits ++
    (List.finRange 6).flatMap fun t => put1 (c.trigs[t]).state.code ++ put1 (handleOctet (c.trigs[t]).handle)

/-- Free places of the outbound queue (R180). -/
def State.freePlaces (s : State) : Nat := Config.outboundLimit - (s.mp.outbound.length + s.mp.reserved)

end Sys2Proof.Machine
end

