-- ==== Sys2Proof/Machine/Resolver.lean ====
section
/-! DEFINITION. The Template Resolver: turning a template and a call record into a resolved element list
(R65 to R72). -/

namespace Sys2Proof.Machine

/-- What a slot or a walk gives: resolved elements, and whether DEGRADED is set. -/
structure Resolution where
  elements : List Resolved
  degraded : Bool
  deriving DecidableEq, Repr

/-- A phrase with a bound flag. -/
def phraseElement (bound : Bool) (id : Nat) : Resolved := ⟨.phrase id, bound⟩

/-- A phrase id gives one element; "none" is omitted and sets DEGRADED (R70). -/
def givePhrase (bound : Bool) : Option Nat → Resolution
  | some id => ⟨[phraseElement bound id], false⟩
  | none => ⟨[], true⟩

/-- Two resolutions one after the other. -/
def Resolution.append (a b : Resolution) : Resolution := ⟨a.elements ++ b.elements, a.degraded || b.degraded⟩

/-- A slot omitted with DEGRADED set. -/
def omitted : Resolution := ⟨[], true⟩

/-- The hour and then the minute of a minute of day, each resolved alone (R71). -/
def giveTime (s : State) (bound : Bool) (minute : Nat) : Resolution :=
  (givePhrase bound (s.numberPhrase (minute / 60))).append (givePhrase bound (s.minutePhrase (minute % 60)))

/-- The expected minute of day: the scheduled minute plus the delay, modulo 1440 (R71). -/
def Call.expectedMinute (c : Call) : Nat := (c.minute + c.delay.getD 0) % 1440

/-- The DELAY slot (R71). -/
def giveDelay (s : State) (bound : Bool) : Option Nat → Resolution
  | none => omitted
  | some 0 => ⟨[], false⟩
  | some (d + 1) =>
    if d + 1 < 100 then givePhrase bound (s.numberPhrase (d + 1)) else givePhrase bound s.overflowPhrase

/-- A slot with a call record, by its slot kind (R70, R71, R197). -/
def giveSlot (s : State) (c : Call) (bound : Bool) (kind : Nat) : Resolution :=
  match kind with
  | 0 => givePhrase bound (s.numberPhrase c.platform)
  | 1 => givePhrase bound (c.prevPlatform.bind s.numberPhrase)
  | 2 => givePhrase bound c.destination
  | 3 => givePhrase bound c.origin
  | 4 => givePhrase bound c.operator
  | 5 => giveTime s bound c.minute
  | 6 => giveTime s bound c.expectedMinute
  | 7 => giveDelay s bound c.delay
  | 8 => if c.carriages = 0 then omitted else givePhrase bound (s.numberPhrase c.carriages)
  | _ => omitted

/-- What one element word gives (R68); without a call every slot is omitted (R70). -/
def giveElement (s : State) (call : Option Call) (w : Word) : Resolution :=
  let bound := w.getLsbD 13
  match bits w 14 2 with
  | 0 => ⟨[phraseElement bound (bits w 0 10)], false⟩
  | 1 => (match call with | some c => giveSlot s c bound (bits w 0 4) | none => omitted)
  | 2 => ⟨[⟨.gap (bits w 0 8), bound⟩], false⟩
  | _ => ⟨[], false⟩

/-- The walk of R68 over a template's element words. -/
def resolveWords (s : State) (call : Option Call) : List Word → Resolution
  | [] => ⟨[], false⟩
  | w :: rest => (giveElement s call w).append (resolveWords s call rest)

/-- A resolved list holds at least one element: an empty walk gives a gap of 10 ms and sets DEGRADED (R69). -/
def Resolution.orGap (r : Resolution) : Resolution :=
  if r.elements = [] then ⟨[⟨.gap 1, false⟩], true⟩ else r

/-- Resolves a template against a call record, or without a call (R67 to R71). -/
def resolveTemplate (s : State) (template : Nat) (call : Option Call) : Resolution :=
  (resolveWords s call (s.templateElements template)).orGap

/-- The slot of the call record with the id (R99). -/
def State.findCall (s : State) (id : Nat) : Option CallSlot :=
  (List.finRange 256).find? fun i => match s.calls[i] with | some c => decide (c.id = id) | none => false

/-- The call record with the id. -/
def State.callWithId (s : State) (id : Nat) : Option Call := (s.findCall id).bind fun i => s.calls[i]

/-- The call record a record resolves against (R67). -/
def State.callOfRec (s : State) (x : Rec) : Option Call := x.callId.bind s.callWithId

end Sys2Proof.Machine
end

