-- ==== Sys2Proof/Machine/Playout.lean ====
section
/-! DEFINITION. The Playout Engine: what AC's commands do to a channel (R80 to R90), emission (R83, R84), the
Phrase Store Port and its arbiter (R91 to R96), and the channel's side of element beginnings and ends. -/

namespace Sys2Proof.Machine

/-! ### AC's side -/

/-- At PE's start report the start set of an announcement record becomes its live set; the evacuation record's
is not re-formed (R57). The live zones that R9, R20, R21 and R55 say cannot be covered stay out of it, among them a zone
not available at the start that the record has joined before the report (DEDUCED, log entry 50). -/
def State.startReport (s : State) (r : RecRef) : State :=
  s.modRec r fun x => if x.isAnnouncement then { x with start := x.heard } else x

/-- At a skip AC sets DEGRADED (R72, R74) and the skipped-element count steps (R78). -/
def State.noteSkip (s : State) (r : RecRef) : State :=
  { (s.modRec r fun x => { x with degraded := true }) with skipped := bump16 s.skipped }

/-- The current element index, which the record and its channel hold alike (R46, R79). -/
def State.setIndex (s : State) (k : ChanId) (r : RecRef) (i : Nat) : State :=
  (s.modRec r fun x => { x with index := i }).modChan k fun c => { c with index := i }

/-! ### Commands of AC -/

/-- Voids the burst in flight for a channel (R96). -/
def State.voidBurst (s : State) (k : ChanId) : State :=
  match s.port.busy with
  | some b =>
    if (s.chans[k]).inFlight && decide (b.chan = k) then
      { s with port := { s.port with busy := some { b with void := true } } }
    else s
  | none => s

/-- A pause: LOADING or RUNNING abandons the current element; PAUSED and IDLE are unchanged (R87). -/
def State.pauseChan (s : State) (k : ChanId) : State :=
  let c := s.chans[k]
  if c.state = .loading ∨ c.state = .running then
    (s.voidBurst k).setChan k
      { c with state := .paused, fifo := [], cur := .none, loopWait := false, startArmed := false }
  else s

/-- What an abort clears (R89), whatever the state after it. -/
def Channel.cleared (c : Channel) : Channel :=
  { c with
    fifo := [], loop := false, loopWait := false, cur := .none, bound := none, endFlag := false, index := 0
    startArmed := false }

/-- An abort: the channel becomes IDLE, which is a cause of the admission pass; an IDLE channel is unchanged
(R89). -/
def State.abortChan (s : State) (k : ChanId) : State :=
  let c := s.chans[k]
  if c.state = .idle then s
  else
    (((s.voidBurst k).setChan k { c.cleared with state := .idle }).notePass).push [.channelIdle]

/-- Binds a channel to a record and holds it before element 0: the held start of R86, and the first part of the
start of R80. On a channel that is not IDLE it is the restart of R90: the abort of R89 without IDLE, first. -/
def State.bindChan (s : State) (k : ChanId) (r : RecRef) (cls : Cls) (loop : Bool) : State :=
  let c := s.chans[k]
  let s := if c.state = .idle then s else s.voidBurst k
  s.setChan k { c.cleared with state := .paused, bound := some ⟨r, cls⟩, loop := loop }

/-- The lowest-numbered IDLE channel. -/
def State.idleChan (s : State) : Option ChanId :=
  (List.finRange 6).find? fun k => decide ((s.chans[k]).state = .idle)

/-! ### Elements -/

/-- Byte length of a directory entry (R74). -/
def DirEntry.byteLength (e : DirEntry) : Nat :=
  match e.encoding with
  | .linear16 => 2 * e.length
  | .compressed8 => e.length

/-- The check of R74: not empty, and within the phrase store. -/
def entryPlays (size : Nat) (e : DirEntry) : Bool :=
  decide (e.length ≠ 0) && decide (e.start + e.byteLength ≤ size)

/-- A channel begins its current element (R81), making the start report where one is due (R82). A skipped
element ends at once. -/
def State.beginElement (s : State) (k : ChanId) (armed : Bool) : State :=
  let c := s.chans[k]
  match c.bound with
  | none => s
  | some b =>
    match s.recOf b.ref with
    | none => s
    | some x =>
      let c : Channel := { c with fifo := [], loopWait := false, startArmed := false }
      match x.list[c.index]? with
      | none => s.push [.endElement k]
      | some ⟨.gap n, _⟩ =>
        let s := s.setChan k { c with state := .running, cur := .gap (n * 160) }
        if armed then s.startReport b.ref else s
      | some ⟨.phrase id, _⟩ =>
        let e := s.dirEntry id
        if entryPlays s.storeSize e then
          s.setChan k
            { c with state := .loading, cur := .phrase e e.start e.length e.length, startArmed := armed }
        else
          let s := s.setChan k { c with state := .running, cur := .none }
          let s := s.noteSkip b.ref
          let s := if armed then s.startReport b.ref else s
          s.push [.endElement k]

/-- A channel's current element has ended (R85): on to the next element, into loop wait, or completion. -/
def State.endElement (s : State) (k : ChanId) : State :=
  let c := s.chans[k]
  match c.bound with
  | none => s
  | some b =>
    match s.recOf b.ref with
    | none => s
    | some x =>
      let c : Channel := { c with cur := .none, fifo := [], startArmed := false, state := .running }
      if c.index + 1 < x.list.length then
        ((s.setChan k c).setIndex k b.ref (c.index + 1)).push [.boundary b.ref, .beginNext k b.ref, .pauseAfter b.ref]
      else if c.loop then
        ((s.setChan k { c with loopWait := true }).setIndex k b.ref 0).push [.boundary b.ref]
      else
        (((s.setChan k { c.cleared with state := .idle, endFlag := true }).notePass).push
          [.channelIdle, .complete b.ref])

/-- The next element begins at the same event, unless the channel was taken away at the boundary (R85). It begins also
where the boundary takes the record's last live zone, and the pause then abandons it (R87; DEDUCED, log entry 33 for the
boundary's place before the beginning). -/
def State.beginNext (s : State) (k : ChanId) (r : RecRef) : State :=
  let c := s.chans[k]
  if c.state = .running ∧ c.cur = .none ∧ c.loopWait = false ∧ c.bound.map Bound.ref = some r then
    s.beginElement k false
  else s

/-- A loop wait ends at a frame event, and element 0 begins without a start report (R82, R85). -/
def State.endLoopWait (s : State) (k : ChanId) : State :=
  if (s.chans[k]).state = .running ∧ (s.chans[k]).loopWait = true then s.beginElement k false else s

/-- A resume: a PAUSED channel begins its current element afresh, with a start report when it is element 0
(R88). -/
def State.resumeChan (s : State) (k : ChanId) : State :=
  if (s.chans[k]).state = .paused then s.beginElement k (decide ((s.chans[k]).index = 0)) else s

/-- The channel's current element has run out and its end is to be taken (R83, R84, R85). -/
def Channel.ended (c : Channel) : Bool :=
  decide (c.state = .running) && !c.loopWait &&
    (match c.cur with
      | .gap 0 => true
      | .phrase _ _ _ 0 => true
      | _ => false)

/-- The end of a channel's current element is taken, if it has run out (R85). -/
def State.takeEnd (s : State) (k : ChanId) : State := if (s.chans[k]).ended then s.endElement k else s

/-- What a channel emits at a frame event, and the channel after it (R83, R84). -/
def Channel.emit (c : Channel) : Channel × Word :=
  if c.state = .running then
    match c.cur with
    | .gap (n + 1) => ({ c with cur := .gap n }, 0)
    | .phrase e a f (n + 1) =>
      (match c.fifo with
        | x :: rest => ({ c with fifo := rest, cur := .phrase e a f n }, x)
        | [] => ({ c with underrun := bump16 c.underrun }, 0))
    | _ => (c, 0)
  else (c, 0)

/-! ### The Phrase Store Port -/

/-- The samples of the burst a channel would ask for (R92). -/
def Channel.burstSamples (c : Channel) : Nat :=
  match c.cur with
  | .phrase e _ f _ => (match e.encoding with | .linear16 => min 64 f | .compressed8 => min 128 f)
  | _ => 0

/-- The octets of so many samples (R92). -/
def Channel.burstOctets (c : Channel) : Nat :=
  match c.cur with
  | .phrase e _ _ _ => (match e.encoding with | .linear16 => 2 * c.burstSamples | .compressed8 => c.burstSamples)
  | _ => 0

/-- The channel requests the port (R93). -/
def Channel.requests (c : Channel) : Bool :=
  (decide (c.state = .loading) || decide (c.state = .running)) && decide (0 < c.burstSamples) && !c.inFlight &&
    decide (c.burstSamples ≤ Config.fifoLimit - c.fifo.length)

/-- The arbiter's order among requesting channels: urgency first, then ascending from the channel after the last
granted, wrapping from 5 to 0 (R94). -/
def State.grantKey (s : State) (k : ChanId) : Nat :=
  let rank := match (s.chans[k]).bound with | some b => b.cls.rank | none => 5
  rank * 6 + (k.val + 5 - s.port.lastGranted.val) % 6

/-- The requesting channel the arbiter grants (R94). -/
def State.grantee (s : State) : Option ChanId :=
  ((List.finRange 6).filter fun k => (s.chans[k]).requests).foldl
    (fun best k =>
      match best with
      | none => some k
      | some j => if s.grantKey k < s.grantKey j then some k else some j) none

/-- The command and address octets of a burst: 0x03, then the 24-bit address, most significant first (R92). -/
def readCommand (addr : Nat) : List Byte :=
  [0x03, BitVec.ofNat 8 (addr / 65536), BitVec.ofNat 8 (addr / 256), BitVec.ofNat 8 addr]

/-- The channel after its grant: its fetch address moves forward and its fetch samples remaining fall (R92). The last
burst of a phrase that ends at the top of a 16 MiB store leaves the address at 16,777,216, one past the range R79 and
R92 give it (DESIGN CHOICE, log entry 52). -/
def Channel.granted (c : Channel) : Channel :=
  match c.cur with
  | .phrase e a f n =>
    { c with inFlight := true, cur := .phrase e (a + c.burstOctets) (f - c.burstSamples) n }
  | _ => c

/-- The address the next burst of a channel starts at. -/
def Channel.fetchAddr (c : Channel) : Nat := match c.cur with | .phrase _ a _ _ => a | _ => 0

/-- Grants the port if it is IDLE and a channel requests (R94). -/
def State.grant (s : State) : State :=
  if s.port.busy.isSome then s
  else
    match s.grantee with
    | none => s
    | some k =>
      let c := s.chans[k]
      { (s.setChan k c.granted) with
        port := { s.port with
          busy := some ⟨k, c.fetchAddr, c.burstOctets, c.burstSamples, false⟩
          lastGranted := k
          sent := readCommand c.fetchAddr } }

/-- Linear16 octet pairs, low octet first (R76). -/
def linearSamples : List Byte → List Word
  | lo :: hi :: rest => BitVec.ofNat 16 (lo.toNat + hi.toNat * 256) :: linearSamples rest
  | _ => []

/-- A burst's octets as samples (R76, R95). -/
def State.samplesOf (s : State) (enc : Encoding) (octets : List Byte) : List Word :=
  match enc with
  | .linear16 => linearSamples octets
  | .compressed8 => octets.map s.expansion

/-- The prefill level: the lesser of 128 and the element's length (R82). -/
def prefill (e : DirEntry) : Nat := min 128 e.length

/-- A burst's samples enter the channel's FIFO, and LOADING may become RUNNING, with the start report on element
0 (R82, R95). -/
def State.deliver (s : State) (k : ChanId) (octets : List Byte) : State :=
  let c := s.chans[k]
  match c.cur with
  | .phrase e _ _ _ =>
    let fifo := c.fifo ++ s.samplesOf e.encoding octets
    if c.state = .loading ∧ prefill e ≤ fifo.length then
      let s := s.setChan k { c with fifo := fifo, state := .running, startArmed := false }
      match c.startArmed, c.bound with
      | true, some b => s.startReport b.ref
      | _, _ => s
    else s.setChan k { c with fifo := fifo }
  | _ => s

/-- A burst completes at the port (R95); after a soft reset the last granted channel becomes 5 (R91). -/
def State.completeBurst (s : State) (b : Burst) (octets : List Byte) : State :=
  let s := { s with
    port := { s.port with
      busy := none
      lastGranted := if s.port.afterReset then 5 else s.port.lastGranted
      afterReset := false } }
  let s := s.modChan b.chan fun c => { c with inFlight := false }
  if b.void then s else s.deliver b.chan octets

end Sys2Proof.Machine
end

