-- ==== Sys2Proof/Machine/Scan.lean ====
section
/-! DEFINITION. The line test scan: eligibility, turns, tests, abandonment, the forming of a round and the
placing of cleared zones (R138 to R142, R154). -/

namespace Sys2Proof.Machine

/-- Writes the scan state. -/
def State.setScan (s : State) (x : Scan) : State := { s with scan := x }

/-- The four conditions of R138. -/
def State.eligible (s : State) (z : ZoneId) : Bool :=
  s.enabled z && s.lineTestOn z && decide (s.zones[z].trip = .none) &&
    decide (s.zones[z].line ≠ .openLine) && decide (s.zones[z].line ≠ .shortLine)

/-- The list the scan works on: the round list in a round, the clear list outside one (R154). -/
def Scan.active (x : Scan) : List (ZoneId × Nat) := if x.round then x.roundList else x.clearList

/-- The scan with another list to work on. -/
def Scan.withActive (x : Scan) (l : List (ZoneId × Nat)) : Scan :=
  if x.round then { x with roundList := l } else { x with clearList := l }

/-- The list without a zone. -/
def dropZone (z : ZoneId) (l : List (ZoneId × Nat)) : List (ZoneId × Nat) := l.filter fun p => decide (p.1 ≠ z)

/-- The interval timer's full length in frame events, with the scan interval then set (R138). -/
def State.intervalFrames (s : State) : Nat := s.scanInterval * Config.framesPerSecond

/-- Begins a zone's test (R140). -/
def State.beginTest (s : State) (z : ZoneId) : State :=
  s.setScan { s.scan with under := some ⟨z, Config.lineTestFrames, none⟩ }

/-- Ends a round that has no zone left; outside a round nothing happens (R138, R139, R154). -/
def State.endRound (s : State) : State :=
  if s.scan.round then s.setScan { s.scan with round := false, interval := some s.intervalFrames } else s

/-- Turns until a test begins or the list is empty (R139). Each turn that begins no test removes a zone or
raises its deferral count, so three turns a zone and one more are always enough. -/
def State.turns : Nat → State → State
  | 0, s => s
  | n + 1, s =>
    match s.scan.active with
    | [] => s.endRound
    | (z, count) :: rest =>
      if !s.eligible z then State.turns n (s.setScan (s.scan.withActive rest))
      else if s.zones[z].own.hasOwner then
        if count < 2 then State.turns n (s.setScan (s.scan.withActive (rest ++ [(z, count + 1)])))
        else State.turns n (s.setScan (s.scan.withActive rest))
      else s.beginTest z

/-- The next turn, unless a test is in progress (R139). -/
def State.nextTurn (s : State) : State :=
  if s.scan.under.isSome then s else State.turns (3 * s.scan.active.length + 1) s

/-- The zone is under test. -/
def State.underTest (s : State) (z : ZoneId) : Bool :=
  match s.scan.under with
  | some t => decide (t.zone = z)
  | none => false

/-- A zone under test gains an owner: the test is abandoned, which counts as a deferral (R140). -/
def State.abandonOwned (s : State) (z : ZoneId) : State :=
  if s.underTest z then
    let l := s.scan.active
    let count := ((l.find? fun p => decide (p.1 = z)).map Prod.snd).getD 2
    let l := dropZone z l
    let l := if count < 2 then l ++ [(z, count + 1)] else l
    (s.setScan { s.scan.withActive l with under := none }).nextTurn
  else s

/-- A zone under test is disabled, loses its line test enable or trips: the test is abandoned and the zone
leaves the list (R140). -/
def State.abandonRemoved (s : State) (z : ZoneId) : State :=
  if s.underTest z then
    (s.setScan { s.scan.withActive (dropZone z s.scan.active) with under := none }).nextTurn
  else s

/-- The interval timer has expired: a round begins (R138). -/
def State.beginRound (s : State) : State :=
  let cleared := s.scan.clearList
  let formed := (allZones.filter fun z => s.eligible z && !(cleared.any fun p => decide (p.1 = z))).map fun z => (z, 0)
  ({ s with scan :=
      { s.scan with round := true, interval := none, roundList := cleared ++ formed, clearList := [] } }).nextTurn

/-- The limits of R141. -/
def State.upperLimit (s : State) (z : ZoneId) : Nat := s.nominalLoad z * (100 + s.tolerance z) / 100
/-- The lower limit of R141. -/
def State.lowerLimit (s : State) (z : ZoneId) : Nat := s.nominalLoad z * (100 - s.tolerance z) / 100

/-- The zone with the result of a test (R141). -/
def State.testResult (s : State) (z : ZoneId) (load : Option Nat) : Zone :=
  let x := s.zones[z]
  match load with
  | some v =>
    { x with
      line := if s.upperLimit z < v then .openLine else if v < s.lowerLimit z then .shortLine else .normal
      noReport := 0 }
  | none =>
    if x.noReport + 1 < 3 then { x with noReport := x.noReport + 1 }
    else { x with line := .noReport, noReport := 3 }

/-- After the result the zone leaves the list (R141). -/
def State.closeTest (s : State) (z : ZoneId) : State :=
  s.setScan { s.scan.withActive (dropZone z s.scan.active) with under := none }

/-- The zones a FAULT_CLEAR leaves meeting the conditions of R138 are placed for testing (R154); the next turn
follows separately. DEDUCED, log entry 22. -/
def State.placeCleared (s : State) (mask : ZoneSet) : State :=
  let placed := (zonesOf mask).filter fun z => s.eligible z
  let named := match s.scan.under with | some t => hasZone mask t.zone | none => false
  let testing := match s.scan.under with | some t => some t.zone | none => none
  let without := s.scan.active.filter fun p => !(placed.any fun z => decide (z = p.1)) &&
    !(named && decide (some p.1 = testing))
  let under := if named then none else s.scan.under
  if s.scan.round then
    s.setScan { s.scan with roundList := placed.map (fun z => (z, 0)) ++ without, under := under }
  else
    let head := placed.filter fun z => named && decide (some z = testing)
    let tail := placed.filter fun z => !(named && decide (some z = testing))
    s.setScan { s.scan with
      clearList := head.map (fun z => (z, 0)) ++ without ++ tail.map (fun z => (z, 0)), under := under }

end Sys2Proof.Machine
end

