-- ==== Sys2Proof/Machine/Zones.lean ====
section
/-! DEFINITION. The Zone Controller: gains and losses of zones (R4, R56), claims and takes (R7 to R10), the
preemption stack (R11, R12), releases and the release choice (R13 to R17), trips, disabling and enabling
(R5, R6, R19, R20), fallback (R21), joining (R22) and the evacuation take (R23). ZC's reports that a zone is
missed for a record need no action (R57). -/

namespace Sys2Proof.Machine

/-! ### Ownership of one zone -/

/-- Writes a zone's ownership. A zone that passes from having an owner to having none takes its
last-released-at and with it its blanking (R3, R147). -/
def State.setOwn (s : State) (z : ZoneId) (o : Ownership) : State :=
  s.modZone z fun x =>
    if x.own.hasOwner && !o.hasOwner then
      { x with
        own := o, lastReleased := some s.ti.frameCount
        blankUntil := some (countAdd s.ti.frameCount Config.blankingFrames) }
    else { x with own := o }

/-- Writes a zone's preemption stack. -/
def State.setStack (s : State) (z : ZoneId) (l : List RecRef) : State := s.modZone z fun x => { x with stack := l }

/-- A push: an entry of the same handle is removed first, and of three entries the bottom one (R12). -/
def pushRef (l : List RecRef) (r : RecRef) : List RecRef :=
  r :: (l.filter fun q => decide (q.handle ≠ r.handle)).take 2

/-! ### Gains and losses (R4, R56) -/

/-- A zone enters a record's live set; a PAUSED record becomes PLAYING and its channel resumes (R56). -/
def State.gainZone (s : State) (r : RecRef) (z : ZoneId) : State :=
  match s.recOf r with
  | none => s
  | some x =>
    let y := { x with live := withZone x.live z, detached := withoutZone x.detached z }
    if x.state = .paused then (s.setRec r.handle (some { y with state := .playing })).push [.resume r]
    else s.setRec r.handle (some y)

/-- A record becomes owner of a zone that had none; a test of the zone is abandoned (R140). -/
def State.assign (s : State) (z : ZoneId) (r : RecRef) : State :=
  ((s.setOwn z (.owned r none)).abandonOwned z).gainZone r z

/-- A record that PAUSES while it holds reservations takes those zones at once (R17). -/
def State.takeReservations (s : State) (r : RecRef) : State :=
  allZones.foldl (fun s z => if s.zones[z].own = .reserved r then s.assign z r else s) s

/-- An element end of the record's channel is being taken, and the next element is still to begin (R85). -/
def State.nextDue (s : State) (k : ChanId) (r : RecRef) : Bool :=
  s.work.any fun t => match t with | .beginNext j q => decide (j = k) && decide (q = r) | _ => false

/-- AC pauses the channel of a record that has become PAUSED. An element that has ended is taken first, and its
next element begun (R87). DEDUCED, log entry 5. Inside an element end the pause comes after the next element is begun
(R85, R87), and that end brings it about. -/
def State.pauseFor (s : State) (k : ChanId) (r : RecRef) : State :=
  if s.nextDue k r then s
  else if (s.chans[k]).ended then s.push [.takeEnd k, .pauseAfter r] else s.pauseChan k

/-- The pause that follows an element end, of a record still PAUSED when the next element is begun (R87). -/
def State.pauseAfter (s : State) (r : RecRef) : State :=
  match s.recOf r with
  | none => s
  | some x =>
    if x.state = .paused then (match x.channel with | some k => s.pauseFor k r | none => s) else s

/-- A PLAYING record whose live set has become empty PAUSES, and its channel with it (R56). -/
def State.pauseIfSilent (s : State) (r : RecRef) : State :=
  match s.recOf r with
  | none => s
  | some x =>
    if x.state = .playing ∧ x.live = 0 then
      let s := s.setRec r.handle (some { x with state := .paused })
      let s := match x.channel with | some k => s.pauseFor k r | none => s
      s.takeReservations r
    else s

/-- A zone leaves a record's live set and start set; the record, unless it has ended, counts it as detached
while its effective set holds it (R4, R13, R57; DEDUCED, log entry 16). A seized record is QUEUED when its zones are
released, and its detached set stays empty (R54 over R13; DEDUCED, log entry 31). -/
def State.loseZone (s : State) (r : RecRef) (z : ZoneId) : State :=
  (s.modRec r fun x =>
    { x with
      live := withoutZone x.live z, start := withoutZone x.start z
      detached := if x.current then withZone x.detached z &&& x.effective else x.detached }).pauseIfSilent r

/-! ### Claims and takes (R7 to R10, R12) -/

/-- The three answers to a claim (section 1.4). -/
inductive Claimed where
  | taken | deferred | notAvailable
  deriving DecidableEq, Repr

/-- The record's current resolved element is bound (R8). A page has none. -/
def State.inBound (s : State) (r : RecRef) : Bool :=
  match s.recOf r with
  | some x => x.current && (match x.list[x.index]? with | some e => e.bound | none => false)
  | none => false

/-- The reference names a page. -/
def State.isPageRef (s : State) (r : RecRef) : Bool :=
  match s.recOf r with
  | some x => x.isPage
  | none => false

/-- A take from a less urgent owner is immediate (R8). -/
def State.takesAtOnce (s : State) (x y : RecRef) : Bool :=
  s.isPageRef y || !s.inBound y || decide (s.clsOf x = .emergency)

/-- A record takes a zone that has no owner and no reservation. -/
def State.takeUnowned (s : State) (z : ZoneId) (x : RecRef) : State :=
  (s.setStack z (s.zones[z].stack.filter fun q => decide (q ≠ x))).assign z x

/-- The zone's stack when a record takes the zone from another: the taker's reference is removed, and the loser's
is pushed while it is current (R7, R12). -/
def State.pushedStack (s : State) (z : ZoneId) (y x : RecRef) : List RecRef :=
  let l := s.zones[z].stack.filter fun q => decide (q ≠ x)
  if s.current y then pushRef l y else l

/-- A record takes a zone from its owner: a pending claim is dropped (DEDUCED, log entry 11), and the zone leaves the
loser's live set first (R4, R12). -/
def State.takeOwned (s : State) (z : ZoneId) (y x : RecRef) : State :=
  let s := (s.setStack z (s.pushedStack z y x)).setOwn z (.owned x none)
  ((s.loseZone y z).abandonOwned z).gainZone x z

/-- A record takes a zone from its reservation, which goes back on the stack (R17). The zone was not live for that
record, and its sets stay as they are (R11). -/
def State.takeReservation (s : State) (z : ZoneId) (w x : RecRef) : State :=
  (s.setStack z (s.pushedStack z w x)).assign z x

/-- A deferred take: the claimant becomes the zone's pending claim (R9). -/
def State.deferClaim (s : State) (z : ZoneId) (y x : RecRef) : State :=
  (s.setStack z (s.zones[z].stack.filter fun q => decide (q ≠ x))).setOwn z (.owned y (some x))

/-- A claim, measured against the zone's state and the claimant's class (R7, R8, R9). A zone inside its release choice
goes to the record the choice has named, and to no other (R14). -/
def State.claim (s : State) (z : ZoneId) (x : RecRef) : State × Claimed :=
  match s.zones[z].own with
  | .disabled => (s, .notAvailable)
  | .tripped => (s, .notAvailable)
  | .free => (s.takeUnowned z x, .taken)
  | .choosing _ named => if named = some x then (s.takeUnowned z x, .taken) else (s, .notAvailable)
  | .owned y p =>
    if y = x then (s, .taken)
    else if !moreUrgent (s.clsOf x) (s.clsOf y) then (s, .notAvailable)
    else if s.takesAtOnce x y then (s.takeOwned z y x, .taken)
    else
      (match p with
        | none => (s.deferClaim z y x, .deferred)
        | some q =>
          if moreUrgent (s.clsOf x) (s.clsOf q) then ((s.deferClaim z y x).modRec q (Rec.missesZone z), .deferred)
          else (s, .notAvailable))
  | .reserved w =>
    if moreUrgent (s.clsOf x) (s.clsOf w) then (s.takeReservation z w x, .taken) else (s, .notAvailable)

/-! ### Joining (R22, R56) -/

/-- The zone is wanted by the record (R22). -/
def State.wanted (s : State) (z : ZoneId) (r : RecRef) : Bool :=
  match s.recOf r with
  | none => false
  | some x =>
    x.current && hasZone x.effective z && !hasZone x.live z &&
      !((s.zones[z].stack).any fun q => decide (q = r)) &&
      (match s.zones[z].own with
        | .reserved w => decide (w ≠ r)
        | .owned _ p => decide (p ≠ some r)
        | _ => true)

/-- The record claims the zone if it is wanted. -/
def State.claimWanted (s : State) (z : ZoneId) (r : RecRef) : State :=
  if s.wanted z r then (s.claim z r).1 else s

/-- The zone is owned or reserved. -/
def Ownership.held : Ownership → Bool
  | .owned _ _ => true
  | .reserved _ => true
  | _ => false

/-- The record claims a wanted zone at its element boundary; where the zone is held against it, its reference
is placed at the bottom of the stack as a waiting entry (R22). A zone that stands inside its own release choice at that
moment gets no waiting entry and stays wanted (DESIGN CHOICE, log entry 37). -/
def State.joinWanted (s : State) (z : ZoneId) (r : RecRef) : State :=
  if s.wanted z r then
    let a := s.claim z r
    if a.2 = .notAvailable ∧ s.zones[z].own.held then
      let l := s.zones[z].stack
      if l.length < 3 ∧ (l.any fun q => decide (q.handle = r.handle)) = false then s.setStack z (l ++ [r]) else s
    else a.1
  else s

/-- The record takes a wanted zone that is FREE (R56). -/
def State.claimFree (s : State) (z : ZoneId) (r : RecRef) : State :=
  if s.zones[z].own = .free then s.claimWanted z r else s

/-- A pending claim matures (R10). -/
def State.mature (s : State) (z : ZoneId) (r : RecRef) : State :=
  match s.zones[z].own with
  | .owned y (some x) => if y = r then s.takeOwned z y x else s
  | _ => s

/-- A reservation takes its zone (R17). -/
def State.takeReserved (s : State) (z : ZoneId) (r : RecRef) : State :=
  if s.zones[z].own = .reserved r ∧ s.current r then s.assign z r else s

/-- An element boundary: pending claims on the record's zones mature, its reservations are taken, and it joins
its wanted zones, each in ascending zone order (R10, R17, R22). The evacuation record joins nothing here. -/
def State.boundary (s : State) (r : RecRef) : State :=
  match s.recOf r with
  | none => s
  | some x =>
    if x.current then
      s.push (
        (allZones.filter fun z => (match s.zones[z].own with | .owned y (some _) => decide (y = r) | _ => false)).map
          (Task.mature · r) ++
        (allZones.filter fun z => decide (s.zones[z].own = .reserved r)).map (Task.takeReserved · r) ++
        (if x.isAnnouncement then (zonesOf x.effective).map (Task.joinWanted · r) else []))
    else s

/-! ### Availability (R53, R54) -/

/-- A zone is available to a record (R53). A zone inside its release choice is available to the record the choice has
named, and to no other (R14). -/
def State.available (s : State) (z : ZoneId) (x : Rec) : Bool :=
  hasZone x.effective z &&
    (!(decide (s.mp.device = .quiet) && quietClass x.cls) || s.nightActive z) &&
    (match s.zones[z].own with
      | .free => true
      | .choosing _ named => decide (named.map RecRef.seq = some x.seq)
      | .owned y p =>
        moreUrgent x.cls (s.clsOf y) && (match p with | some q => moreUrgent x.cls (s.clsOf q) | none => true)
      | .reserved w => moreUrgent x.cls (s.clsOf w)
      | _ => false)

/-- The victim of a seizure by a class: the least urgent PLAYING or PAUSED announcement record strictly less
urgent, and of those the one with the highest sequence number (R54). -/
def State.victim (s : State) (c : Cls) : Option RecRef :=
  ((s.sorted (fun x => x.isAnnouncement && x.playingOrPaused && x.channel.isSome && moreUrgent c x.cls)
    queueKey).getLast?).map Prod.snd

/-- The device state admits the class (R14, R53, R159). -/
def State.admits (s : State) (c : Cls) : Bool :=
  match s.mp.device with
  | .config => false
  | .evac => decide (c = .emergency)
  | _ => true

/-- The TOGETHER condition (R53, step 3). -/
def State.togetherHolds (s : State) (x : Rec) : Bool :=
  !x.together || (zonesOf x.effective).all fun z => !s.usable z || s.available z x

/-- The record could start now: steps 2 to 5 of the walk (R53). -/
def State.startable (s : State) (x : Rec) : Bool :=
  s.admits x.cls && s.togetherHolds x && (allZones.any fun z => s.available z x) &&
    (s.idleChan.isSome || (s.victim x.cls).isSome)

/-- The release choice names a record for the zone (R14). -/
def State.nameFor (s : State) (z : ZoneId) (r : RecRef) : State :=
  match s.zones[z].own with
  | .choosing wasOwned _ => s.setOwn z (.choosing wasOwned (some r))
  | _ => s

/-- The queue offer of a release choice: the first record of the queue that would start with the zone counted as
available to it (R14), one record left out where the choice is made without it (R17). -/
def State.offer (s : State) (z : ZoneId) (without : Option RecRef) : Option RecRef :=
  s.queue.find? fun r =>
    match s.recOf r with
    | none => false
    | some x =>
      decide (without ≠ some r) && hasZone x.effective z && (s.nameFor z r).available z x && (s.nameFor z r).startable x &&
        (match s.zones[z].stack with
          | [] => true
          | w :: _ => !s.current w || moreUrgent x.cls (s.clsOf w))

/-! ### Releases and the release choice (R13 to R16) -/

/-- The zone becomes FREE; while an evacuation wants it, the evacuation record takes it at that event (R23). -/
def State.freeZone (s : State) (z : ZoneId) : State :=
  let s := s.setOwn z .free
  match s.evacRec with
  | some x => if hasZone x.effective z then s.push [.evacTake z] else s
  | none => s

/-- The pending claim a release choice gives the zone to (R14). An evacuation lets no record but an EMERGENCY one take
a zone that way: the claim is dropped (R161, step 2; DEDUCED, log entry 40). -/
def State.heir (s : State) (p : Option RecRef) : Option RecRef :=
  p.filter fun x => !decide (s.mp.device = .evac) || decide (s.clsOf x = .emergency)

/-- A record gives up a zone it owns: to the pending claim, or to the release choice (R13, R14). -/
def State.releaseOwned (s : State) (z : ZoneId) (r : RecRef) : State :=
  match s.zones[z].own with
  | .owned y p =>
    if y = r then
      let s := s.notePass
      (match s.heir p with
        | some x => ((s.setOwn z (.owned x none)).loseZone r z).gainZone x z
        | none => ((s.setOwn z (.choosing true none)).push [.choose z none]).loseZone r z)
    else s
  | _ => s

/-- The second step of the release choice: the queue offer, and then the stack (R14). Where a reservation was dropped
the choice is made without the record that held it (R17). -/
def State.choose (s : State) (z : ZoneId) (without : Option RecRef) : State :=
  match s.zones[z].own with
  | .choosing _ _ =>
    (match s.offer z without with
      | some r => (s.nameFor z r).push [.start r, .popStack z]
      | none => s.push [.popStack z])
  | _ => s

/-- The release choice goes on to the stack: stale tops are discarded, a current top is popped (R15), and a stack
that empties leaves the zone FREE (R16). -/
def State.popStack (s : State) (z : ZoneId) : State :=
  match s.zones[z].own with
  | .choosing _ _ =>
    (match s.zones[z].stack.dropWhile fun r => !s.current r with
      | [] => (s.setStack z []).freeZone z
      | w :: rest =>
        let s := s.setStack z rest
        (match s.recOf w with
          | some x =>
            if x.state = .paused ∨ x.state = .live then s.assign z w else s.setOwn z (.reserved w)
          | none => s))
  | _ => s

/-- A record stops being current: its pending claims and reservations are dropped, a reserved zone making the
release choice from its second step, and then its zones are released, in ascending zone order (R18, R58). The zones it
had reserved make their choice before those it owned, whatever their numbers; until its turn a zone it had reserved is
available to nobody, and a zone it owned counts as OWNED by it at its class (DESIGN CHOICE, log entry 32). -/
def State.dropAndRelease (s : State) (r : RecRef) : State :=
  let s' := allZones.foldl (fun s z =>
    match s.zones[z].own with
    | .owned y p => if p = some r then s.setOwn z (.owned y none) else s
    | .reserved w => if w = r then s.setOwn z (.choosing false none) else s
    | _ => s) s
  s'.push (
    (allZones.filter fun z => decide (s.zones[z].own = .reserved r)).map (Task.choose · (some r)) ++
    (allZones.filter fun z => decide (s.zones[z].own.owner? = some r)).map (Task.releaseOwned · r))

/-! ### Evacuation take and fallback (R21, R23) -/

/-- The evacuation take of a zone of the record's set (R23). -/
def State.evacTake (s : State) (z : ZoneId) : State :=
  match s.evacRec with
  | none => s
  | some x =>
    if hasZone x.effective z then
      match s.zones[z].own with
      | .disabled => s
      | .tripped => s
      | .free => s.takeUnowned z evacRef
      | .choosing _ _ => s.takeUnowned z evacRef
      | .owned y _ => if y = evacRef then s else s.takeOwned z y evacRef
      | .reserved w => s.takeReservation z w evacRef
    else s

/-- The record gains the fallback zone: it holds the tripped zone and not yet the fallback (R21). -/
def gainsFallback (z f : ZoneId) (x : Rec) : Bool :=
  x.unfinished && hasZone x.effective z && !hasZone x.effective f

/-- The fallback of a tripped zone joins every record's effective set that holds the zone; pages claim it at once,
in sequence-number order, and the evacuation record takes it (R21, R22). DEDUCED, log entry 21. -/
def State.addFallback (s : State) (z : ZoneId) : State :=
  match s.fallback z with
  | none => s
  | some f =>
    if s.usable f then
      let pages := s.bySequence fun x => gainsFallback z f x && x.isPage
      let evac := match s.evacRec with | some x => gainsFallback z f x | none => false
      (s.modRecs (gainsFallback z f) (Rec.gainsThrough f)).push (pages.map (Task.claimWanted f ·) ++ (if evac then [.evacTake f] else []))
    else s

/-! ### Trips, disabling and enabling (R5, R6, R19, R20) -/

/-- The zone passes to DISABLED or TRIPPED: its owner is detached without a push, its stack, pending claim and
reservation go, and its duck is 0 (R6, R19, R40). -/
def State.vacate (s : State) (z : ZoneId) (o : Ownership) : State :=
  let owner := s.zones[z].own.owner?
  let s := (s.setOwn z o).modZone z fun x => { x with stack := [], duck := 0 }
  match owner with
  | some r => s.loseZone r z
  | none => s

/-- ZS reports a trip of the zone (R19): its fallback is added after the owner is detached. -/
def State.zoneTripped (s : State) (z : ZoneId) : State :=
  match s.zones[z].own with
  | .disabled => s
  | .tripped => s
  | _ => (s.push [.addFallback z]).vacate z .tripped

/-- The enable field is turned off (R6). -/
def State.disableZone (s : State) (z : ZoneId) : State := s.vacate z .disabled

/-- The enable field is turned on (R5). -/
def State.enableZone (s : State) (z : ZoneId) : State :=
  if s.zones[z].own = .disabled then
    if s.zones[z].trip = .none then s.freeZone z else s.setOwn z .tripped
  else s

/-- ZS reports that a TRIPPED zone's trip state is NONE again, and no record that holds the zone can cover it any more
(R20); a cause of the admission pass (R53). -/
def State.zoneCleared (s : State) (z : ZoneId) : State :=
  if s.zones[z].own = .tripped then
    ((s.modRecs (fun x => x.unfinished && hasZone x.effective z) (Rec.bar z)).freeZone z).notePass
  else s

end Sys2Proof.Machine
end

