-- ==== Sys2Proof/Machine/Announce.lean ====
section
/-! DEFINITION. The Announcement Controller: endings and their accounts (R57, R58), completion and the repeat
(R59), acceptance and the queue (R46 to R51), starts and seizures (R54, R55), the admission pass (R53, R56), the
reports to CS (R113), and the lists of endings that one event makes (R58, R117, R128, R159). -/

namespace Sys2Proof.Machine

/-! ### The report of an ending to CS (R113) -/

/-- A trigger that names the handle loses it; every other trigger stays as it is. -/
def Trig.clearHandle (h : Handle) (t : Trig) : Trig := if t.handle = some h then { t with handle := none } else t

/-- Changes the six triggers of a call. -/
def mapTrigs (f : Trig → Trig) (v : Vector Trig 6) : Vector Trig 6 :=
  (List.finRange 6).foldl (fun w i => w.set i.val (f v[i]) i.isLt) v

/-- The trigger of a call names the handle. -/
def Call.names (c : Call) (h : Handle) : Bool :=
  (List.finRange 6).any fun i => decide ((c.trigs[i]).handle = some h)

/-- CS hears that a TIMETABLE record ended: every trigger of its call that names the handle loses it, and stays
FIRED (R113). -/
def State.reportEnding (s : State) (h : Handle) (x : Rec) : State :=
  if x.origin = .timetable then
    match x.callId.bind s.findCall with
    | none => s
    | some i =>
      (match s.calls[i] with
        | some c =>
          if c.names h then
            s.setCall i (some { c with trigs := mapTrigs (Trig.clearHandle h) c.trigs, noticePending := true })
          else s
        | none => s)
  else s

/-! ### Acceptance (R46, R49, R50, R51) -/

/-- A new record of the queue, with the fields R46 gives it at acceptance. -/
def queuedRec (origin : Origin) (cls : Cls) (template : Nat) (callId : Option Nat) (trigger : Option (Fin 6))
    (requested effective : ZoneSet) (validUntil : Option Nat) (together repeatMissed : Bool) : Rec where
  seq := 0
  origin := origin
  cls := cls
  body := .announcement
  template := template
  callId := callId
  trigger := trigger
  requested := requested
  effective := effective
  validUntil := validUntil
  together := together
  repeatMissed := repeatMissed
  isRepeat := false
  degraded := false
  restarts := 0
  state := .queued
  channel := none
  list := []
  index := 0
  live := 0
  detached := 0
  start := 0
  barred := 0
  late := 0
  covered := 0
  outcome := none
  repeatHandle := none

/-- A set is counted as covered at a completion, at any ending of a page and at EVAC_END; at any other ending the
covered set is empty (R57). -/
def Rec.coveredAt (x : Rec) (o : EndOutcome) : ZoneSet :=
  if !x.isAnnouncement || decide (o = .complete) || decide (o = .partly) then x.start else 0

/-- The record begins to end: it is no longer current, and its coverage and outcome are settled from the sets it
then holds (R57, R58; DEDUCED, log entry 13). -/
def Rec.closing (x : Rec) (o : EndOutcome) : Rec :=
  { x with state := .ending, covered := x.coveredAt o, outcome := some o }

/-- A class whose announcements may be repeated (R59). -/
def repeatsClass (c : Cls) : Bool := decide (c = .safety) || decide (c = .call) || decide (c = .info)

/-- The repeat of a completed record (R59). -/
def State.repeatOf (s : State) (x : Rec) (missed : ZoneSet) : Rec :=
  { queuedRec x.origin x.cls x.template x.callId x.trigger missed (s.formEffective missed x.cls) none x.together false
    with isRepeat := true, degraded := x.degraded, list := x.list }

/-- The handle a completed record's repeat takes, when one is made (R59). -/
def State.repeatHandleFor (s : State) (x : Rec) : Option Handle :=
  let missed := x.effective &&& ~~~x.covered
  if x.repeatMissed && !x.isRepeat && decide (missed ≠ 0) && repeatsClass x.cls &&
      decide (s.queue.length < Config.queueLimit) && decide (s.formEffective missed x.cls ≠ 0) then s.freeHandle
  else none

/-- Makes the repeat of a completed record, if one is due (R59). -/
def State.makeRepeat (s : State) (r : RecRef) (x : Rec) : State :=
  match s.repeatHandleFor x with
  | none => s
  | some h =>
    (s.allocate h (s.repeatOf x (x.effective &&& ~~~x.covered))).modRec r fun y => { y with repeatHandle := some h }

/-- The last steps of an ending (R58): the repeat of a completion, DONE and the finished list, the report to CS. -/
def State.finishRecord (s : State) (r : RecRef) (o : EndOutcome) : State :=
  match s.recOf r with
  | none => s
  | some x =>
    let s := if o = .complete ∨ o = .partly then (if x.isAnnouncement then s.makeRepeat r x else s) else s
    let s := s.modRec r fun y => { y with state := .done }
    let s := if r.handle = evacHandle then s
      else { s with mp := { s.mp with finished := s.mp.finished ++ [r.handle] } }
    s.reportEnding r.handle x

/-- A QUEUED record leaves the queue with an outcome: it has no channel and no zones (R58). -/
def State.endQueued (s : State) (r : RecRef) (o : EndOutcome) : State :=
  match s.recOf r with
  | none => s
  | some x => if x.state = .queued then (s.setRec r.handle (some (x.closing o))).finishRecord r o else s

/-- A record ends (R58): its channel is aborted, its claims, reservations and zones are given up, and it is
finished. A record already ended is disregarded (R62). -/
def State.endRecord (s : State) (r : RecRef) (o : EndOutcome) : State :=
  match s.recOf r with
  | none => s
  | some x =>
    if x.unfinished then
      if x.state = .queued then s.endQueued r o
      else
        let s := (s.setRec r.handle (some { x.closing o with channel := none })).push [.finishRecord r o]
        let s := s.dropAndRelease r
        match x.channel with
        | some k => if o = .complete ∧ x.isAnnouncement ∨ o = .partly then s else s.abortChan k
        | none => s
    else s

/-- The event being carried out ends the record in its turn, which has not come (R117, R128, R159, R161). -/
def State.dueToEnd (s : State) (r : RecRef) : Bool :=
  s.work.any fun t => match t with | .endRecord q _ => decide (q = r) | _ => false

/-- PE reported completion (R59): the record ends with COMPLETE or PARTIAL, a cause of the admission pass (R53). A
report for a record that is not PLAYING or PAUSED is disregarded (R80), and so is one for a record that the event being
carried out is about to end: it ends in its turn, with that event's outcome (R159, R161; DEDUCED, log entry 34). -/
def State.complete (s : State) (r : RecRef) : State :=
  match s.recOf r with
  | none => s
  | some x =>
    if s.dueToEnd r then s.setRec r.handle (some { x with channel := none })
    else if x.isAnnouncement && x.playingOrPaused then
      s.notePass.endRecord r (if x.effective &&& ~~~x.start = 0 then .complete else .partly)
    else s

/-- The record of the queue that a request of the class would displace from a full queue (R51). -/
def State.displaced (s : State) (c : Cls) : Option RecRef :=
  match s.queue.getLast? with
  | some r => if moreUrgent c (s.clsOf r) then some r else none
  | none => none

/-- A new record is checked for a handle and a place and enters the queue, a cause of the admission pass; or the
result code of the refusal (R49, R51). -/
def State.enqueue (s : State) (x : Rec) : Except Nat (State × Handle) :=
  match s.freeHandle with
  | none => .error ResultCode.noHandle
  | some h =>
    if s.queue.length < Config.queueLimit then .ok ((s.allocate h x).notePass, h)
    else
      match s.displaced x.cls with
      | none => .error ResultCode.queueFull
      | some r => .ok (((s.endQueued r .displaced).allocate h x).notePass, h)

/-- The later of two valid-untils; an absent one is later than any time (R50). -/
def laterTime : Option Nat → Option Nat → Option Nat
  | some a, some b => some (max a b)
  | _, _ => none

/-- The queued record a TIMETABLE request merges into (R50, R112). Of several, which a seizure can bring about, it is
the first in queue order (DESIGN CHOICE, log entry 36). -/
def State.mergeTarget (s : State) (callId template : Nat) : Option RecRef :=
  s.queue.find? fun r =>
    match s.recOf r with
    | some x =>
      decide (x.origin = .timetable) && !x.isRepeat && decide (x.callId = some callId) && decide (x.template = template)
    | none => false

/-- A TIMETABLE request merged into a queued record (R50). -/
def Rec.merged (x : Rec) (requested effective : ZoneSet) (validUntil : Option Nat) (repeatMissed : Bool) : Rec :=
  { x with
    requested := x.requested ||| requested, effective := x.effective ||| effective
    validUntil := laterTime x.validUntil validUntil, repeatMissed := x.repeatMissed || repeatMissed }

/-- A TIMETABLE request of CS (R50): OK or MERGED with a handle, or the refusal. -/
def State.timetableRequest (s : State) (cls : Cls) (template : Nat) (zones : ZoneSet) (validUntil : Option Nat)
    (repeatMissed : Bool) (callId : Nat) (trigger : Fin 6) : Except Nat (State × Handle) :=
  if template > 127 ∨ s.templateEmpty template = true then .error ResultCode.badValue
  else
    let effective := s.formEffective zones cls
    if effective = 0 then .error ResultCode.noZone
    else
      match s.mergeTarget callId template with
      | some r => .ok ((s.modRec r fun x => x.merged zones effective validUntil repeatMissed).notePass, r.handle)
      | none =>
        s.enqueue
          (queuedRec .timetable cls template (some callId) (some trigger) zones effective validUntil false repeatMissed)

/-! ### Lists of endings (R58) -/

/-- The endings one event makes: QUEUED records first, in queue order, and then the others, in sequence-number
order (R58). -/
def State.endings (s : State) (p : Rec → Bool) (o : EndOutcome) : List Task :=
  ((s.sorted (fun x => p x && x.isQueued) queueKey).map fun q => Task.endRecord q.2 o) ++
    ((s.bySequence fun x => p x && x.unfinished && !x.isQueued).map fun r => Task.endRecord r o)

/-- The endings of an amendment, of an entry into CONFIG and of step 2 of EVAC_START are causes of the admission pass,
endings of QUEUED records among them (R117, R128, R159, R161). -/
def State.noteEndings (s : State) (l : List Task) : State := if l.isEmpty then s else s.notePass

/-- TIMETABLE announcements of the call, repeats included (R117, R128). -/
def timetableOf (id : Nat) (x : Rec) : Bool :=
  x.isAnnouncement && decide (x.origin = .timetable) && decide (x.callId = some id)

/-- Announcements of the call, whatever their origin (R118). -/
def announcementOf (id : Nat) (x : Rec) : Bool := x.isAnnouncement && decide (x.callId = some id)

/-- What an entry into CONFIG ends (R159). -/
def endsAtConfig (x : Rec) : Bool := x.isAnnouncement || x.isPage

/-- What step 2 of EVAC_START ends: PLAYING and PAUSED announcements that are not EMERGENCY, and open pages
(R161). -/
def endsAtEvac (x : Rec) : Bool :=
  (x.isAnnouncement && x.playingOrPaused && decide (x.cls ≠ .emergency)) || x.isPage

/-! ### Starts and seizures (R54, R55) -/

/-- The victim of a seizure on its way back to the queue (R54). Its detached set is cleared, and the release of its
zones leaves it empty (DEDUCED, log entry 31). -/
def Rec.seized (y : Rec) : Rec :=
  { y with
    state := .queued, restarts := y.restarts + 1, channel := none, index := 0, live := 0, detached := 0, start := 0
    late := 0, list := if y.isRepeat then y.list else [] }

/-- The record leaves the queue for a channel, which it holds while it starts (R55). -/
def Rec.onChannel (x : Rec) (k : ChanId) : Rec :=
  { x with state := .starting, channel := some k, index := 0, late := 0 }

/-- A record seizes its victim's channel (R54): the channel passes without becoming IDLE, the victim returns to
the queue or ends with PREEMPTED, its zones are released, and the record then starts. A victim seized for the third time
ends with PREEMPTED also where the event being carried out was to end it (DESIGN CHOICE, log entry 43). That ending
notes a cause of the admission pass by the zones it releases alone: one of a victim that owns no zone frees no channel,
since the seizure passes it on, and notes none (DESIGN CHOICE between R58, R90 and section 3.9, log entry 47). -/
def State.seize (s : State) (r : RecRef) (x : Rec) (v : RecRef) : State :=
  match s.recOf v with
  | none => s
  | some y =>
    match y.channel with
    | none => s
    | some k =>
      let s := (s.bindChan k r x.cls false).setRec r.handle (some (x.onChannel k))
      let s := s.push [.resolveAndClaim r]
      if y.restarts < 2 then (s.setRec v.handle (some y.seized)).dropAndRelease v
      else (s.setRec v.handle (some { y with channel := none })).push [.endRecord v .preempted]

/-- A QUEUED record starts, on an IDLE channel or by a seizure (R53, step 5; R55). -/
def State.startRecord (s : State) (r : RecRef) : State :=
  match s.recOf r with
  | none => s
  | some x =>
    if x.state = .queued ∧ s.startable x = true then
      match s.idleChan with
      | some k =>
        ((s.bindChan k r x.cls false).setRec r.handle (some (x.onChannel k))).push [.resolveAndClaim r]
      | none =>
        (match s.victim x.cls with
          | some v => s.seize r x v
          | none => s)
    else s

/-- The starting record's list: a repeat keeps the one it carries (R55, R59). -/
def State.resolvedFor (s : State) (x : Rec) : Rec :=
  if x.isRepeat then x
  else
    let a := resolveTemplate s x.template (s.callOfRec x)
    { x with list := a.elements, degraded := x.degraded || a.degraded }

/-- The starting record is resolved and then claims its available zones in ascending order (R55). -/
def State.resolveAndClaim (s : State) (r : RecRef) : State :=
  match s.recOf r with
  | none => s
  | some x =>
    if x.state = .starting then
      (s.setRec r.handle (some (s.resolvedFor x))).push
        ((zonesOf x.effective).map (Task.claimAtStart · r) ++ [.finishStart r])
    else s

/-- The starting record claims the zone if it is available to it; an announcement cannot cover one that is not
(R55). -/
def State.claimAtStart (s : State) (z : ZoneId) (r : RecRef) : State :=
  match s.recOf r with
  | none => s
  | some x =>
    if s.available z x then (s.claim z r).1
    else if x.isAnnouncement then s.modRec r (Rec.missesZone z)
    else s

/-- The starting record becomes PLAYING and its channel begins element 0, or PAUSED in a held start (R55, R80,
R86), also where no take was made and none deferred (DESIGN CHOICE, log entry 42). -/
def State.finishStart (s : State) (r : RecRef) : State :=
  match s.recOf r with
  | none => s
  | some x =>
    if x.state = .starting then
      if x.live = 0 then s.setRec r.handle (some { x with state := .paused })
      else
        let s := s.setRec r.handle (some { x with state := .playing })
        match x.channel with
        | some k => s.push [.beginElement k true]
        | none => s
    else s

/-- AC resumes the record's channel (R56, R88). -/
def State.resumeRecord (s : State) (r : RecRef) : State :=
  match s.recOf r with
  | none => s
  | some x =>
    if x.state = .playing then (match x.channel with | some k => s.resumeChan k | none => s) else s

/-! ### The admission pass (R53, R56) -/

/-- Runs the pass if a cause is noted (R53). -/
def State.passIfDue (s : State) : State :=
  if s.passDue then { s with passDue := false }.push [.passVisit none] else s

/-- No zone of the set is usable (R53, step 1; R56). -/
def State.noneUsable (s : State) (m : ZoneSet) : Bool := (zonesOf m).all fun z => !s.usable z

/-- The place after the given one comes next in the walk. -/
def after? (after : Option Nat) (key : Nat) : Bool :=
  match after with
  | some a => decide (a < key)
  | none => true

/-- The walk visits the next record of the queue as it then stands: ended with NO_ZONE, started, or skipped
(R53). -/
def State.passVisit (s : State) (after : Option Nat) : State :=
  match s.queueKeyed.find? fun p => after? after p.1 with
  | none => s.push [.rejoinPaused]
  | some (key, r) =>
    (match s.recOf r with
      | none => s.push [.passVisit (some key)]
      | some x =>
        if s.noneUsable x.effective then s.push [.endRecord r .noZone, .passVisit (some key)]
        else if s.startable x then s.push [.start r, .passVisit (some key)]
        else s.push [.passVisit (some key)])

/-- After the walk, PAUSED announcements are served in sequence-number order (R56). They are those that are PAUSED as
this part of the pass begins, and the PLAYING ones after them likewise: a record that becomes PAUSED while others are
served waits for the next pass (DESIGN CHOICE, log entry 48). -/
def State.rejoinPaused (s : State) : State :=
  s.push ((s.bySequence fun x => x.isAnnouncement && decide (x.state = .paused)).map Task.rejoinRecord ++
    [.rejoinPlaying])

/-- A PAUSED record claims its wanted zones, or ends with NO_ZONE when none of its zones is usable (R56). -/
def State.rejoinRecord (s : State) (r : RecRef) : State :=
  match s.recOf r with
  | none => s
  | some x =>
    if x.state = .paused then
      if s.noneUsable x.effective then s.push [.endRecord r .noZone]
      else s.push ((zonesOf x.effective).map (Task.claimWanted · r))
    else s

/-- Then PLAYING announcements claim the wanted zones that are FREE, and a further pass runs if a cause was noted
during this one (R53, R56). -/
def State.rejoinPlaying (s : State) : State :=
  s.push (((s.bySequence fun x => x.isAnnouncement && decide (x.state = .playing)).flatMap fun r =>
    match s.recOf r with
    | some x => (zonesOf x.effective).map (Task.claimFree · r)
    | none => []) ++ [.passIfDue])

/-! ### Staleness and pages (R52, R60) -/

/-- The record is stale at the time (R52). -/
def Rec.staleAt (x : Rec) (now : Nat) : Bool :=
  match x.validUntil with
  | some t => decide (t < now)
  | none => false

/-- QUEUED records whose valid-until has passed end with STALE, in queue order (R52). -/
def State.removeStale (s : State) : State :=
  (s.sorted (fun x => x.isQueued && x.staleAt s.clock.seconds) queueKey).foldl
    (fun s p => s.endQueued p.2 .stale) s

/-- A page record at its opening (R60). -/
def pageRec (slot : SlotId) (hang : Nat) (requested effective : ZoneSet) : Rec :=
  { queuedRec .page .live 0 none none requested effective none false false with
    state := .live, body := .page slot hang (hang * Config.framesPerSecond) false }

/-- The opened page's start set is the zones taken (R57, R60). -/
def State.formPageStart (s : State) (r : RecRef) : State := s.modRec r fun x => { x with start := x.live }

end Sys2Proof.Machine
end

