-- ==== Sys2Proof/Machine/Evacuation.lean ====
section
/-! DEFINITION. The evacuation record: its zone set (R162), its building and its channel (R161, R163), its
replacement (R165), its start set (R57), and its ANN_DONE (R44, R166). -/

namespace Sys2Proof.Machine

/-- The zones an EVAC_START names: all 24 when its mask is empty (section 9.5). -/
def namedZones (mask : ZoneSet) : ZoneSet := if mask = 0 then BitVec.allOnes 24 else mask

/-- The effective set of the evacuation record: the named zones, and the fallback, where it is usable, of each
named zone that is TRIPPED (R162). -/
def State.evacZones (s : State) (mask : ZoneSet) : ZoneSet :=
  namedZones mask ||| zonesWhere fun f =>
    s.usable f && allZones.any fun t =>
      hasZone (namedZones mask) t && s.isTripped t && decide (s.fallback t = some f)

/-- A fresh evacuation record (R162). -/
def evacRecord (body : Body) (template : Nat) (effective : ZoneSet) : Rec :=
  { queuedRec .evac .emergency template none none effective effective none false false with
    state := .sounding, body := body }

/-- Gives a record in TEMPLATE mode the lowest-numbered IDLE channel, or puts it in CHANNEL_WAIT (R163). -/
def State.giveEvacChannel (s : State) (x : Rec) : State :=
  match s.idleChan with
  | some k =>
    (s.bindChan k evacRef .emergency true).setRec evacHandle
      (some { x with state := .starting, channel := some k, index := 0 })
  | none => s.setRec evacHandle (some { x with state := .channelWait, channel := none })

/-- Steps 3 to 5 of R161: the record is built under handle 63, given a channel in TEMPLATE mode, makes its
evacuation takes in ascending zone order, forms its start set and starts. -/
def State.buildEvac (s : State) (body : Body) (template : Nat) (mask : ZoneSet) : State :=
  let x := evacRecord body template (s.evacZones mask)
  let s := match body with
    | .evacTemplate => s.giveEvacChannel x
    | _ => s.setRec evacHandle (some x)
  s.push ((zonesOf x.effective).map Task.evacTake ++ [.formEvacStart, .startEvac])

/-- The start set is the zones taken (R57, R161, R165). -/
def State.formEvacStart (s : State) : State := s.modRec evacRef fun x => { x with start := x.live }

/-- The template is resolved without a call, and the channel starts looping, or makes a held start when no zone
is live (R80, R86, R163). -/
def State.startEvac (s : State) : State :=
  match s.evacRec with
  | none => s
  | some x =>
    match x.state, x.channel with
    | .starting, some k =>
      let a := resolveTemplate s x.template none
      let y : Rec := { x with list := a.elements, degraded := x.degraded || a.degraded, index := 0 }
      if y.live = 0 then s.setRec evacHandle (some { y with state := .paused })
      else (s.setRec evacHandle (some { y with state := .playing })).push [.beginElement k true]
    | _, _ => s

/-- A channel became IDLE: a waiting evacuation record is given it (R163). DEDUCED, log entry 24. -/
def State.channelIdle (s : State) : State :=
  match s.evacRec with
  | none => s
  | some x =>
    if x.state = .channelWait ∧ s.idleChan.isSome then (s.giveEvacChannel x).push [.startEvac] else s

/-- The replacement of R165: the new mode, source and set, then the releases of the zones outside the set, the
takes of the zones inside it, and the channel. The record is set aside as starting while its zones change, so
that its channel does not follow them; one that waits for a channel in TEMPLATE mode waits on, and one that is to sound
a slot and has no channel sounds it at once. DESIGN CHOICE, log entry 25. -/
def State.replaceEvac (s : State) (body : Body) (template : Nat) (mask : ZoneSet) : State :=
  match s.evacRec with
  | none => s.buildEvac body template mask
  | some x =>
    let effective := s.evacZones mask
    let y := { x with
      body := body, template := template, requested := effective, effective := effective
      barred := 0
      detached := x.detached &&& effective
      state := match body, x.channel, x.state with
        | .evacTemplate, none, .channelWait => .channelWait
        | .evacTemplate, _, _ => .starting
        | _, some _, _ => .starting
        | _, none, _ => .sounding }
    (s.setRec evacHandle (some y)).push (
      ((allZones.filter fun z => decide (s.zones[z].own.owner? = some evacRef) && !hasZone effective z).map
        (Task.releaseOwned · evacRef)) ++
      (zonesOf effective).map Task.evacTake ++ [.evacChannel x.channel, .formEvacStart, .startEvac])

/-- The channel of a replaced evacuation record, by the table of R165: `had` is the channel it came with. A record that
waited, and was given a channel while its zones changed, keeps it (R163). -/
def State.evacChannel (s : State) (had : Option ChanId) : State :=
  match s.evacRec with
  | none => s
  | some x =>
    match x.body, had with
    | .evacTemplate, some k =>
      (s.bindChan k evacRef .emergency true).setRec evacHandle (some { x with state := .starting, index := 0 })
    | .evacTemplate, none => if x.state = .starting ∧ x.channel = none then s.giveEvacChannel x else s
    | _, some k =>
      (s.setRec evacHandle (some { x with state := .sounding, channel := none, list := [], index := 0 })).abortChan k
    | _, none => s.setRec evacHandle (some { x with state := .sounding })

/-- The evacuation record's ANN_DONE is placed in its reserved place, and handle 63 is freed (R44, R166). -/
def State.placeEvacDone (s : State) : State :=
  match s.recOf evacRef with
  | none => { s with mp := { s.mp with reserved := s.mp.reserved - 1 } }
  | some x =>
    let s := s.placeOut (noticeMessage s TypeCode.annDone (annDonePayload evacHandle x))
    { (s.setRec evacHandle none) with mp := { s.mp with reserved := s.mp.reserved - 1 } }

end Sys2Proof.Machine
end

