-- ==== Sys2Proof/Machine/Calls.lean ====
section
/-! DEFINITION. The Call Scheduler: trigger times (R105), zone selection (R107), evaluation and firing of triggers
(R110 to R112), retirement (R119, R120), the second event (R103), call records (R115 to R117), and what each
running event makes of a call record (R125 to R133). -/

namespace Sys2Proof.Machine

/-! ### Trigger points (R105 to R107) -/

/-- The point is used. -/
def State.pointUsed (s : State) (plan : Nat) (i : Fin 6) : Bool := (s.planWord plan i 0).getLsbD 15
/-- The template id of a point. -/
def State.pointTemplate (s : State) (plan : Nat) (i : Fin 6) : Nat := bits (s.planWord plan i 0) 0 8
/-- The condition code of a point. -/
def State.pointCondition (s : State) (plan : Nat) (i : Fin 6) : Nat := bits (s.planWord plan i 0) 8 4
/-- The class of a point. -/
def State.pointClass (s : State) (plan : Nat) (i : Fin 6) : Cls :=
  (clsOfCode (bits (s.planWord plan i 2) 0 3)).getD .info
/-- REPEAT_MISSED of a point. -/
def State.pointRepeat (s : State) (plan : Nat) (i : Fin 6) : Bool := (s.planWord plan i 2).getLsbD 15
/-- Valid-for of a point, in seconds. -/
def State.pointValidFor (s : State) (plan : Nat) (i : Fin 6) : Nat := (s.planWord plan i 3).toNat

/-- The trigger time of a call's trigger: the reference time plus the offset (R105). It may be negative. -/
def State.triggerTime (s : State) (c : Call) (i : Fin 6) : Int :=
  (if (s.planWord c.plan i 0).getLsbD 14 then (c.expected : Int) else (c.scheduled : Int)) +
    (s.planWord c.plan i 1).toInt * 60

/-- The zone set a point's zone selection gives (R107). -/
def State.selectedZones (s : State) (c : Call) (i : Fin 6) : ZoneSet :=
  match bits (s.planWord c.plan i 0) 12 2 with
  | 0 => s.platformZones c.platform
  | 1 => s.concourse
  | 2 => s.platformZones c.platform ||| s.concourse
  | _ => (match c.prevPlatform with | some p => s.platformZones p | none => 0)

/-! ### Evaluation (R110 to R112) -/

/-- The call with a trigger in another state, its notice pending (R110). -/
def Call.withTrig (c : Call) (i : Fin 6) (t : Trig) : Call :=
  { c with trigs := c.trigs.set i.val t i.isLt, noticePending := true }

/-- A trigger that passed the checks makes its request (R112). -/
def State.fireTrigger (s : State) (slot : CallSlot) (c : Call) (i : Fin 6) : State :=
  let validFor := s.pointValidFor c.plan i
  match s.timetableRequest (s.pointClass c.plan i) (s.pointTemplate c.plan i) (s.selectedZones c i)
      (if validFor = 0 then none else some (s.clock.seconds + validFor)) (s.pointRepeat c.plan i) c.id i with
  | .error _ => s.setCall slot (some (c.withTrig i ⟨.missed, none⟩))
  | .ok (t, h) =>
    -- the request may have displaced a record whose trigger this same call holds
    let c := (t.calls[slot]).getD c
    t.setCall slot (some (c.withTrig i ⟨.fired, some h⟩))

/-- A trigger is due (R110). -/
def State.triggerDue (s : State) (c : Call) (i : Fin 6) : Bool :=
  decide ((c.trigs[i]).state = .pending) && s.pointUsed c.plan i &&
    decide (s.triggerTime c i ≤ (s.clock.seconds : Int))

/-- A due trigger is judged (R111). -/
def State.evaluateTrigger (s : State) (slot : CallSlot) (i : Fin 6) : State :=
  match s.calls[slot] with
  | none => s
  | some c =>
    if s.triggerDue c i then
      if (s.clock.seconds : Int) - s.triggerTime c i > (s.catchUp : Int) then
        s.setCall slot (some (c.withTrig i ⟨.skipped, none⟩))
      else if s.mp.device = .config ∨ s.mp.device = .evac then
        s.setCall slot (some (c.withTrig i ⟨.suppressed, none⟩))
      else if conditionHolds (s.pointCondition c.plan i) c then s.fireTrigger slot c i
      else s.setCall slot (some (c.withTrig i ⟨.notMet, none⟩))
    else s

/-- The triggers of a slot, in ascending index order. -/
def State.evaluateSlot (s : State) (slot : CallSlot) : State :=
  match s.calls[slot] with
  | none => s
  | some _ => (List.finRange 6).foldl (fun s i => s.evaluateTrigger slot i) s

/-- The triggers of the call table, in ascending slot order (R110). -/
def State.evaluateTriggers (s : State) : State := (List.finRange 256).foldl State.evaluateSlot s

/-! ### Retirement (R119, R120) -/

/-- A record is found due for retirement, or not due; a due record whose notice-pending flag is clear is freed
(R120). -/
def State.retireSlot (s : State) (slot : CallSlot) : State :=
  match s.calls[slot] with
  | some c =>
    if c.due s.clock && !c.noticePending then s.setCall slot none
    else s.setCall slot (some { c with foundDue := c.due s.clock })
  | none => s

/-- Retirement, slot by slot. -/
def State.retireCalls (s : State) : State := (List.finRange 256).foldl State.retireSlot s

/-! ### The second event (R103, R52) -/

/-- The second event: a VALID clock advances, and then triggers, retirement and staleness are taken. Staleness
comes before trigger evaluation when the argument says so (R112; DESIGN CHOICE, log entry 8). -/
def State.secondEvent (s : State) (stalenessFirst : Bool) : State :=
  if s.clock.valid then
    let s := s.setClock s.clock.tick
    if stalenessFirst then s.removeStale.evaluateTriggers.retireCalls
    else s.evaluateTriggers.retireCalls.removeStale
  else s

/-! ### Call records (R98, R101, R115, R116) -/

/-- The lowest-numbered free slot (R99). -/
def State.freeSlot (s : State) : Option CallSlot := (List.finRange 256).find? fun i => (s.calls[i]).isNone

/-- The number of call records (R122). -/
def State.callCount (s : State) : Nat := ((List.finRange 256).filter fun i => (s.calls[i]).isSome).length

/-- A phrase id field of a request: 0..1023, or "none". -/
def phraseFieldOk (n : Nat) : Bool := decide (n ≤ 1023) || decide (n = 0xFFFF)
/-- A two-octet field that is absent at its "none" code. -/
def absentAt (none? n : Nat) : Option Nat := if n = none? then none else some n

/-- A delay field: UNKNOWN, or minutes clamped to 720 (R115, R123, R193). -/
def delayOf (n : Nat) : Option Nat := if n = 0xFFFF then none else some (min n 720)

/-- The checks of R115 on the fields. -/
def callFieldsOk (p : List Byte) : Bool :=
  decide (field2 p 0 ≠ 0) && decide (octet p 2 ≤ 1) && decide (1 ≤ octet p 3) && decide (octet p 3 ≤ 32) &&
    phraseFieldOk (field2 p 4) && phraseFieldOk (field2 p 6) && phraseFieldOk (field2 p 8) &&
    decide (field2 p 13 ≤ 1439) && decide (octet p 17 ≤ 31)

/-- The call record a CALL_SET gives (R115, R116, R196). -/
def callOfPayload (lateThreshold : Nat) (p : List Byte) : Call where
  id := field2 p 0
  kind := if octet p 2 = 0 then .arrival else .departure
  platform := octet p 3
  prevPlatform := none
  destination := absentAt 0xFFFF (field2 p 4)
  origin := absentAt 0xFFFF (field2 p 6)
  operator := absentAt 0xFFFF (field2 p 8)
  carriages := min (octet p 10) 20
  day := field2 p 11
  minute := field2 p 13
  delay := delayOf (field2 p 15)
  plan := octet p 17
  late := lateFlag lateThreshold (delayOf (field2 p 15))
  cancelled := false
  changed := false
  arrived := false
  departed := false
  state := .planned
  retire := none
  trigs := .replicate 6 ⟨.pending, none⟩
  noticePending := true
  foundDue := false

/-! ### Running events (R125 to R133) -/

/-- The event of a CALL_EVENT (R195). -/
inductive RunEvent where
  | delay | platform | arrived | departed | cancel | reinstate
  deriving DecidableEq, Repr

/-- The event of a code. -/
def runEventOf : Nat → Option RunEvent
  | 0 => some .delay
  | 1 => some .platform
  | 2 => some .arrived
  | 3 => some .departed
  | 4 => some .cancel
  | 5 => some .reinstate
  | _ => none

/-- The call states an event is accepted in (R123). -/
def RunEvent.accepts : RunEvent → CallState → Bool
  | .arrived, .planned => true
  | .arrived, _ => false
  | .reinstate, .cancelled => true
  | .reinstate, _ => false
  | _, .planned => true
  | _, .arrived => true
  | _, _ => false

/-- A call with its delay set and L recomputed; a change of L is a change of a flag (R101, R124, R125). -/
def Call.delayed (c : Call) (threshold : Nat) (d : Option Nat) : Call :=
  let l := lateFlag threshold d
  { c with delay := d, late := l, noticePending := c.noticePending || (l != c.late) }

/-- A call with L recomputed (R101). -/
def Call.relate (c : Call) (threshold : Nat) : Call := c.delayed threshold c.delay

/-- The first step of a PLATFORM event (R127). The notice-pending flag is set always, as R127's third step says, and
also where no flag, trigger or handle changes, where R124 would leave it (DESIGN CHOICE, log entry 35). -/
def Call.moved (c : Call) (p : Nat) : Call :=
  { c with prevPlatform := some c.platform, platform := p, changed := true, noticePending := true }

/-- An ARRIVED event (R130). -/
def Call.hasArrived (c : Call) : Call := { c with arrived := true, state := .arrived, noticePending := true }

/-- The retire time of a call that departs (R119, R131). -/
def State.departRetire (s : State) (c : Call) : Nat :=
  (if s.clock.valid then s.clock.seconds else c.expected) + s.retireDelay * 60

/-- A DEPARTED event (R131). -/
def Call.hasDeparted (c : Call) (retire : Nat) : Call :=
  { c with
    arrived := true, departed := true, state := .departed, retire := some retire, noticePending := true
    foundDue := false }

/-- The first step of a CANCEL event (R119, R132). -/
def Call.withCancel (c : Call) : Call :=
  { c with
    cancelled := true, state := .cancelled, retire := some (c.expected + 3600), noticePending := true
    foundDue := false }

/-- A trigger a REINSTATE returns to PENDING: NOT_MET or SUPPRESSED and not late by more than the catch-up window;
with the clock INVALID, every such trigger (R133). -/
def State.reinstates (s : State) (c : Call) (i : Fin 6) : Bool :=
  (decide ((c.trigs[i]).state = .notMet) || decide ((c.trigs[i]).state = .suppressed)) &&
    (!s.clock.valid || decide ((s.clock.seconds : Int) - s.triggerTime c i ≤ (s.catchUp : Int)))

/-- A REINSTATE event (R133). -/
def State.reinstated (s : State) (c : Call) : Call :=
  { c with
    cancelled := false, state := if c.arrived then .arrived else .planned, retire := none
    trigs := (List.finRange 6).foldl
      (fun w i => if s.reinstates c i then w.set i.val ⟨.pending, none⟩ i.isLt else w) c.trigs
    noticePending := true, foundDue := false }

/-- The triggers a PLATFORM event re-arms, noted before amendment: FIRED triggers that name a record amendment will
end, and FIRED triggers whose index such a record carries (R129). -/
def State.rearmed (s : State) (c : Call) : List (Fin 6) :=
  let ending := fun h : Handle =>
    match s.recs[h] with
    | some x => timetableOf c.id x && x.unfinished
    | none => false
  (List.finRange 6).filter fun i =>
    decide ((c.trigs[i]).state = .fired) &&
      ((match (c.trigs[i]).handle with | some h => ending h | none => false) ||
        (List.finRange 64).any fun h =>
          ending h && (match s.recs[h] with | some x => decide (x.trigger = some i) | none => false))

/-- The noted triggers return to PENDING (R129), and the notice-pending flag is set (R127). -/
def State.rearm (s : State) (slot : CallSlot) (l : List (Fin 6)) : State :=
  match s.calls[slot] with
  | none => s
  | some c =>
    s.setCall slot (some
      { c with
        trigs := l.foldl (fun w i => w.set i.val ⟨.pending, none⟩ i.isLt) c.trigs
        noticePending := true })

/-- A write of the late threshold recomputes L for every call (R101). -/
def State.relateAll (s : State) : State :=
  (List.finRange 256).foldl (fun s i =>
    match s.calls[i] with
    | some c => s.setCall i (some (c.relate s.lateThreshold))
    | none => s) s

end Sys2Proof.Machine
end

