-- ==== Sys2Proof/Machine/Supervision.lean ====
section
/-! DEFINITION. The Zone Supervisor: zone commands (R137), sense words (R136, R140, R144, R145, R147, R148), the
limiter and compensation steps (R145, R146, R149), trips (R151, R152), the end of a line test (R141, R142) and
FAULT_CLEAR (R153, R154). -/

namespace Sys2Proof.Machine

/-! ### Zone commands (R137) -/

/-- The zone command as the conditions stand (R137). -/
def State.zoneCommand (s : State) (z : ZoneId) : ZoneCommand :=
  if s.enabled z = false ∨ s.zones[z].trip ≠ .none then .mute
  else if s.underTest z then .test
  else .play

/-! ### Trips (R151, R152) -/

/-- What step 2 of a trip leaves in the supervision part (R152). -/
def Zone.withTrip (x : Zone) (t : TripState) : Zone :=
  { x with trip := t, comp := 0, cTarget := 0, limR := 0, limActive := false, elapsed := 0, aboveSince := .none }

/-- The test under way has run its time, and its end is still to be taken (R140, R141). -/
def State.testExpired (s : State) : Bool := match s.scan.under with | some t => decide (t.timer = 0) | none => false

/-- A zone trips, unless its trip state is latched already (R151, R152). A test of the zone is abandoned, but for one
whose time has run out, which ends with its result (R151; DEDUCED, log entry 23). -/
def State.tripZone (s : State) (z : ZoneId) (t : TripState) : State :=
  if s.zones[z].trip = .none then
    let s := s.modZone z fun x => x.withTrip t
    (if s.testExpired then s else s.abandonRemoved z).zoneTripped z
  else s

/-! ### Sense words (R136) -/

/-- A CURR word under the TRIP rule (R144). DEDUCED, log entry 29. -/
def State.currTrip (s : State) (z : ZoneId) (v : Nat) : State :=
  if s.overcurrent z < v then
    let n := min 64 (s.zones[z].overCount + 1)
    let s := s.modZone z fun x => { x with overCount := n }
    if s.deglitch z ≤ n then s.tripZone z .overload else s
  else s.modZone z fun x => { x with overCount := 0 }

/-- A CURR word under the regulation rule: above the threshold it starts regulation or feeds it, otherwise it feeds
a regulation in progress (R145). -/
def Zone.fed (x : Zone) (above : Bool) : Zone :=
  if x.limActive then { x with aboveSince := if above then .above else .notAbove }
  else if above then { x with limActive := true, limR := 0, elapsed := 0, aboveSince := .above }
  else x

/-- A CURR word (R144, R145). -/
def State.currWord (s : State) (z : ZoneId) (v : Nat) : State :=
  if s.zones[z].trip ≠ .none then s
  else if s.zones[z].underTripRule then s.currTrip z v
  else s.modZone z fun x => x.fed (decide (s.overcurrent z < v))

/-- A LOAD word is kept while its zone is under test (R140). -/
def State.loadWord (s : State) (z : ZoneId) (v : Nat) : State :=
  match s.scan.under with
  | some t => if t.zone = z then s.setScan { s.scan with under := some { t with load := some v } } else s
  | none => s

/-- An AMB word is accepted (R147). -/
def State.acceptsAmb (s : State) (z : ZoneId) : Bool :=
  s.compOn z && s.enabled z && decide (s.zones[z].trip = .none) && !s.zones[z].own.hasOwner &&
    !s.blanked s.zones[z]

/-- The target of an ambient level (R148): floor of half of (A - Aref) * s, clamped to 0..Cmax. -/
def ambientTarget (aref slope cmax level : Nat) : Nat :=
  (clampInt 0 cmax ((((level : Int) - aref) * slope) / 2)).toNat

/-- An AMB word (R147, R148). -/
def State.ambWord (s : State) (z : ZoneId) (v : Nat) : State :=
  if s.acceptsAmb z then
    s.modZone z fun x => { x with cTarget := ambientTarget (s.aref z) (s.slope z) (s.compMax z) (v % 128) }
  else s

/-- ZS takes a zone's sense word (R136). -/
def State.senseWord (s : State) (z : ZoneId) (w : Word) : State :=
  match senseType w with
  | .none => s
  | .curr => s.currWord z (senseValue w)
  | .load => s.loadWord z (senseValue w)
  | .amb => s.ambWord z (senseValue w)

/-! ### The limiter step (R145, R146) -/

/-- Steps 1 to 4 of a limiter step event (R145). -/
def Zone.regulated (x : Zone) : Zone :=
  let elapsed := if x.elapsed < x.appliedTimeout.steps then x.elapsed + 1 else x.elapsed
  let r := if x.aboveSince = .above then min 24 (x.limR + 2) else x.limR - 1
  if r = 0 then { x with limR := 0, aboveSince := .none, limActive := false, elapsed := 0 }
  else { x with limR := r, aboveSince := .none, elapsed := elapsed }

/-- REGULATE_THEN_TRIP at its timeout (R146). -/
def Zone.handedToTrip (x : Zone) : Zone :=
  { x with limActive := false, limR := 0, elapsed := 0, overCount := 0, tripOverride := true }

/-- The limiter step of one zone (R145, R146). -/
def State.limiterZone (s : State) (z : ZoneId) : State :=
  if s.zones[z].limActive then
    let s := s.modZone z Zone.regulated
    let x := s.zones[z]
    if x.limActive = true ∧ x.appliedTimeout.steps ≤ x.elapsed then
      match x.appliedMode with
      | .regulateThenMute => s.tripZone z .limitTimeout
      | .regulateThenTrip => s.modZone z Zone.handedToTrip
      | .regulate => s
      | .trip => s
    else s
  else s

/-! ### The compensation step (R149) -/

/-- One step of c toward its target, unless the zone is tripped (R149). -/
def Zone.compStepped (x : Zone) : Zone :=
  if x.trip ≠ .none then x
  else if x.comp < x.cTarget then { x with comp := x.comp + 1 }
  else if x.cTarget < x.comp then { x with comp := x.comp - 1 }
  else x

/-- The compensation step event (R149). -/
def State.compensationStep (s : State) : State := allZones.foldl (fun s z => s.modZone z Zone.compStepped) s

/-! ### Line tests (R141, R142) -/

/-- The zone at the end of its test: with the result of the test, or, where the zone tripped before the end was taken,
with the line state of a SHORT result alone (R141, R151). -/
def State.testedZone (s : State) (z : ZoneId) (load : Option Nat) : Zone :=
  let x := s.zones[z]
  let y := s.testResult z load
  if x.trip = .none then y else if load.isSome && decide (y.line = .shortLine) then { x with line := .shortLine } else x

/-- A test ends: its result, the trip of a SHORT zone that isolates, and then the next turn (R141, R142, R151).
DEDUCED, log entry 23. -/
def State.endTest (s : State) (t : TestRun) : State :=
  let s := (s.closeTest t.zone).push [.scanTurn]
  let s := s.setZone t.zone (s.testedZone t.zone t.load)
  if t.load.isSome = true ∧ s.zones[t.zone].line = .shortLine ∧ s.isolates t.zone = true then s.tripZone t.zone .isolated else s

/-! ### FAULT_CLEAR (R153) -/

/-- What FAULT_CLEAR leaves in the supervision part (R153). -/
def Zone.faultCleared (x : Zone) : Zone :=
  { x with line := .untested, trip := .none, overCount := 0, noReport := 0, tripOverride := false }

/-- FAULT_CLEAR clears a zone, and reports a cleared trip to ZC (R153). -/
def State.clearZone (s : State) (z : ZoneId) : State :=
  let tripped := decide (s.zones[z].trip ≠ .none)
  let s := s.modZone z Zone.faultCleared
  if tripped then s.zoneCleared z else s

end Sys2Proof.Machine
end

