-- ==== Sys2Proof/Machine/ParamWrites.lean ====
section
/-! DEFINITION. PARAM_WRITE: validation, the whole write, its immediate effects, and which kinds of write the rows
of the table name (R5, R6, R37, R40, R78, R97, R101, R143, R147 to R149, R176, R185, R186, R189). -/

namespace Sys2Proof.Machine

/-! ### The words of a write -/

/-- The start address of a PARAM_WRITE or PARAM_READ (R196). -/
def paramStart (p : List Byte) : Nat := field2 p 0
/-- The count of a PARAM_WRITE or PARAM_READ (R196). -/
def paramCount (p : List Byte) : Nat := octet p 2

/-- The addresses and words of a PARAM_WRITE, ascending. -/
def writeItems (p : List Byte) : List (Nat × Word) :=
  (List.range (paramCount p)).map fun i => (paramStart p + i, wordAt p (3 + 2 * i))

/-- The count is one of 1..100 (R181). -/
def countOk (p : List Byte) : Bool := decide (1 ≤ paramCount p) && decide (paramCount p ≤ 100)

/-- The write passes validation (R185). -/
def writeValid (l : List (Nat × Word)) : Bool :=
  l.all (fun p => writable p.1) && l.all (fun p => codesExist p.1 p.2)

/-! ### Storing -/

/-- Clears a link counter (R176). -/
def MsgProc.clearLink (mp : MsgProc) (i : Nat) : MsgProc :=
  match i with
  | 0 => { mp with requestErrors := 0 }
  | 1 => { mp with requestOverflows := 0 }
  | 2 => { mp with downDiscards := 0 }
  | 3 => { mp with upDiscards := 0 }
  | 4 => { mp with downLosses := 0 }
  | _ => { mp with upLosses := 0 }

/-- Clears the counter at an address (R37, R78, R97, R176). -/
def State.clearCounter (s : State) (a : Nat) : State :=
  match clipZone a with
  | some z => s.modZone z fun x => { x with clip := 0 }
  | none =>
    match underrunChan a with
    | some k => s.modChan k fun c => { c with underrun := 0 }
    | none =>
      if a = skippedAddr then { s with skipped := 0 }
      else
        match linkIndex a with
        | some i => { s with mp := s.mp.clearLink i }
        | none => s

/-- Writes one word: a counter is cleared by 0 and left by any other value; any other word is stored (R185). -/
def State.writeParam (s : State) (a : Nat) (v : Word) : State :=
  if isCounterWord a then (if v = 0 then s.clearCounter a else s)
  else { s with mp := { s.mp with params := writeWord s.mp.params a (storedWord a v) } }

/-- Writes the words of a request. -/
def State.writeParams (s : State) (l : List (Nat × Word)) : State := l.foldl (fun s p => s.writeParam p.1 p.2) s

/-! ### Immediate effects -/

/-- The address is among those written. -/
def writes (l : List (Nat × Word)) (a : Nat) : Bool := l.any fun p => decide (p.1 = a)

/-- Word `o` of the zone's configuration is written. -/
def writesZone (l : List (Nat × Word)) (z : ZoneId) (o : Nat) : Bool := writes l (zoneWordAddr z.val o)

/-- The word `o` of some zone's configuration is written. -/
def writesAny (l : List (Nat × Word)) (o : Nat) : Bool := allZones.any fun z => writesZone l z o

/-- The write starts blanking in the zone: it writes Aref, slope or Cmax (R147). -/
def blanksZone (l : List (Nat × Word)) (z : ZoneId) : Bool :=
  writesZone l z 10 || writesZone l z 11 || writesZone l z 12

/-- The pending set without the items whose mask bit is clear (R189). -/
def State.dropUnmasked (s : State) : State :=
  { s with mp := { s.mp with changes := s.mp.changes.filter fun p => s.masked p.1 } }

/-- A change mask word is written. -/
def writesMask (l : List (Nat × Word)) : Bool := l.any fun p => decide (0x2100 ≤ p.1) && decide (p.1 ≤ 0x2106)

/-- The configured limiter mode and timeout come into force; a change of the mode ends regulation and sets the
over-count to 0 (R143), also in a zone latched OVERLOAD, whose over-count R144 keeps until FAULT_CLEAR (DESIGN CHOICE
between the two, log entry 49). -/
def Zone.applyLimiter (x : Zone) (m : LimiterMode) (t : LimiterTimeout) : Zone :=
  if x.appliedMode = m then { x with appliedTimeout := t }
  else { x with
    appliedMode := m, appliedTimeout := t, limActive := false, limR := 0, elapsed := 0, aboveSince := .none
    overCount := 0 }

/-- A write of Cmax keeps c and c_t within it (R149). -/
def Zone.limitComp (x : Zone) (m : Nat) : Zone := { x with comp := min x.comp m, cTarget := min x.cTarget m }

/-- The immediate effects of a write of a zone's configuration: staging or application of the limiter settings,
compensation, blanking, and then enabling, disabling and the abandonment of a test (R5, R6, R140, R143, R147 to R149).
Where one write both blanks the zone and releases it by a disable, the release's blanking stands (DESIGN CHOICE, log
entry 45). Where one write turns compensation enable off and lowers Cmax, c_t becomes 0 before c and c_t are limited,
and the compensation status passes through the value between (DESIGN CHOICE, log entry 53). -/
def State.zoneWritten (s : State) (z : ZoneId) (before : Word) (control blanks : Bool) : State :=
  let wasOn := before.getLsbD 0
  let isOn := s.enabled z
  let s := if control && !(wasOn && isOn)
    then s.modZone z fun x => x.applyLimiter (s.limiterMode z) (s.limiterTimeout z) else s
  let s := if control && !s.compOn z then s.modZone z fun x => { x with cTarget := 0 } else s
  let s := if blanks
    then s.modZone z fun x =>
      { x.limitComp (s.compMax z) with
        blankUntil := some (countAdd s.ti.frameCount (1 + Config.blankingFrames)) } else s
  let s := if (wasOn && !isOn) || (before.getLsbD 2 && !s.lineTestOn z) then s.abandonRemoved z else s
  if wasOn && !isOn then s.disableZone z
  else if !wasOn && isOn then s.enableZone z
  else s

/-- The zones whose configuration a write touches in a way that acts at the write. -/
def touchedZones (l : List (Nat × Word)) : List ZoneId :=
  allZones.filter fun z => writesZone l z 0 || blanksZone l z

/-- A write that passed validation is carried out whole (R185, R186). -/
def State.performWrite (s : State) (l : List (Nat × Word)) : State :=
  let work := (touchedZones l).map fun z => Task.zoneWritten z (s.zoneWord z 0) (writesZone l z 0) (blanksZone l z)
  let s := s.writeParams l
  let s := if writes l 3 then s.relateAll else s
  let s := if writesMask l then s.dropUnmasked else s
  s.push work

/-! ### Kinds of write -/

/-- Some zone's word 0 is written with its enable bit as given, against the bit it holds. -/
def State.turnsEnable (s : State) (l : List (Nat × Word)) (on : Bool) : Bool :=
  l.any fun p => allZones.any fun z =>
    decide (p.1 = zoneWordAddr z.val 0) && (p.2.getLsbD 0 == on) && (s.enabled z != on)

/-- ZONE_ENABLE_WRITE: a zone's enable field is turned on (R5). -/
def isZoneEnable (s : State) (l : List (Nat × Word)) : Bool := s.turnsEnable l true
/-- ZONE_DISABLE_WRITE: a zone's enable field is turned off (R6). -/
def isZoneDisable (s : State) (l : List (Nat × Word)) : Bool := s.turnsEnable l false
/-- LIMITER_MODE_WRITE: a zone's limiter mode and timeout are written (R143). -/
def isLimiterMode (_ : State) (l : List (Nat × Word)) : Bool := writesAny l 0
/-- COMPENSATION_WRITE: a zone's compensation enable, Aref, slope or Cmax is written (R147). -/
def isCompensation (_ : State) (l : List (Nat × Word)) : Bool :=
  writesAny l 0 || writesAny l 10 || writesAny l 11 || writesAny l 12
/-- DUCK_DEPTH_WRITE: a zone's D is written (R40). -/
def isDuckDepth (_ : State) (l : List (Nat × Word)) : Bool := writesAny l 4
/-- LATE_THRESHOLD_WRITE: the late threshold is written (R101). -/
def isLateThreshold (_ : State) (l : List (Nat × Word)) : Bool := writes l 3
/-- CHANGE_MASK_WRITE: a change mask is written (R189). -/
def isChangeMask (_ : State) (l : List (Nat × Word)) : Bool := writesMask l
/-- CLIP_COUNTER_CLEAR: a clip counter word is written (R37). -/
def isClipClear (_ : State) (l : List (Nat × Word)) : Bool := l.any fun p => (clipZone p.1).isSome
/-- UNDERRUN_COUNTER_CLEAR: an underrun counter word is written (R97). -/
def isUnderrunClear (_ : State) (l : List (Nat × Word)) : Bool := l.any fun p => (underrunChan p.1).isSome
/-- SKIPPED_COUNT_CLEAR: the skipped-element count word is written (R78). -/
def isSkippedClear (_ : State) (l : List (Nat × Word)) : Bool := writes l skippedAddr
/-- LINK_COUNTER_CLEAR: a link counter word is written (R176). -/
def isLinkClear (_ : State) (l : List (Nat × Word)) : Bool := l.any fun p => (linkIndex p.1).isSome

/-- The write has a row of its own in the table. DESIGN CHOICE, log entry 18. -/
def hasOwnRow (s : State) (l : List (Nat × Word)) : Bool :=
  isZoneEnable s l || isZoneDisable s l || isLimiterMode s l || isCompensation s l || isDuckDepth s l ||
    isLateThreshold s l || isChangeMask s l || isClipClear s l || isUnderrunClear s l || isSkippedClear s l ||
    isLinkClear s l

/-- The request is a whole write that passes every check. -/
def goodWrite (p : List Byte) : Bool :=
  decide (3 ≤ p.length) && countOk p && decide (p.length = 3 + 2 * paramCount p) && writeValid (writeItems p)

end Sys2Proof.Machine
end

