-- ==== Sys2Proof/Machine/Resets.lean ====
section
/-! DEFINITION. The soft reset and the power-on reset (R3, R25, R45, R79, R91, R98, R103, R135, R138, R156, R167,
R176 to R179, R189, R192). -/

namespace Sys2Proof.Machine

/-- The value of a CHANGE item (R189, R196). -/
def State.itemValue (s : State) (k : Nat) : Nat :=
  if h : k / 4 < 24 then
    let x := s.zones[k / 4]
    match k % 4 with
    | 0 => x.line.code
    | 1 => x.trip.code
    | 2 => x.compStatus
    | _ => x.own.code
  else
    match k with
    | 96 => s.mp.device.code
    | 97 => s.ti.downAlign.code
    | 98 => s.ti.upAlign.code
    | _ => if s.clock.valid then 1 else 0

/-- A zone after a soft reset: FREE when its enable field is on, its applied limiter values the configured ones
(R3, R25, R135). -/
def State.resetZone (s : State) (z : ZoneId) : Zone :=
  { Zone.init with
    own := if s.enabled z then .free else .disabled
    appliedMode := s.limiterMode z
    appliedTimeout := s.limiterTimeout z }

/-- Every zone after a soft reset. -/
def State.resetZones (s : State) : Vector Zone 24 :=
  allZones.foldl (fun v z => v.set z.val (s.resetZone z) z.isLt) s.zones

/-- The trunk after a soft reset: alignment, sync counts, frame count, timer and address are kept (R168, R169,
R172, R178, R179). -/
def Trunk.softReset (t : Trunk) : Trunk :=
  { t with downRx := .init, upRx := .init, downBuf := [], upBuf := [], sending := .none, lastPart := true }

/-- The port after a soft reset: a burst in flight is voided, and the last granted channel is set at its
completion (R91, R96). -/
def Port.softReset (p : Port) : Port :=
  match p.busy with
  | some b => { p with busy := some { b with void := true }, afterReset := true }
  | none => { p with lastGranted := 5, afterReset := false }

/-- The soft reset, before the CHANGE items are compared. Every duck is 0, and no step is owed to it (R25). -/
def State.softValues (s : State) : State :=
  { s with
    owed := { s.owed with duck := none }
    ti := s.ti.softReset
    mp := { MsgProc.init with params := s.mp.params }
    zones := s.resetZones
    scan := { Scan.init with interval := some (s.scanInterval * Config.framesPerSecond) }
    recs := .replicate 64 none
    seqCounter := 0
    passDue := false
    chans := .replicate 6 .init
    port := s.port.softReset
    skipped := 0
    calls := .replicate 256 none
    clock := ⟨0, 0, false⟩ }

/-- The soft reset (R192): every block takes its soft reset values, and each masked item whose value the reset
changed joins the pending set (R189). -/
def State.softReset (s : State) : State :=
  let t := s.softValues
  (List.range 100).foldl (fun u k => u.noteItem k (s.itemValue k) (t.itemValue k)) t

/-- The RESULT of a RESET has left the Up port (R192). -/
def State.softResetDue (s : State) : Bool :=
  s.mp.resetting && s.mp.outbound.isEmpty && (match s.ti.sending with | .part _ => false | _ => true)

/-- The part after power-on reset, with the pin still held or just released. DEDUCED, log entry 26. -/
def State.powerOn (s : State) (held : Bool) (address : Byte) : State :=
  { State.reset with
    pinHeld := held
    ti := { Trunk.init with timerRunning := !held, address := address }
    port := { Port.init with highZ := held }
    framesSent := s.framesSent
    pending := s.pending }

/-- The address latched from the straps (R179). -/
def latchedAddress (straps : Byte) : Byte := if straps = broadcast then 0xFE else straps

end Sys2Proof.Machine
end

