-- ==== Sys2Proof/Machine/Mixer.lean ====
section
/-! DEFINITION. The Zone Mixer: source samples (R28 to R30), gain codes (R31, R32), the gain table (R33), the
accumulator, scaling and saturation (R34 to R36), the duck (R39, R40) and page activity (R41). -/

namespace Sys2Proof.Machine

/-- The sample of a source slot at the frame event. -/
def slotSample (slots : List Word) (k : SlotId) : Word := slots.getD k.val 0

/-- The sample a channel emitted at the frame event. -/
def chanSample (emitted : List Word) (k : ChanId) : Word := emitted.getD k.val 0

/-- The foreground sample a record gives its zones (R28, R29). -/
def Rec.sample (x : Rec) (slots emitted : List Word) : Word :=
  match x.body with
  | .page slot _ _ _ => slotSample slots slot
  | .evacSource slot => slotSample slots slot
  | .announcement => (match x.channel with | some k => chanSample emitted k | none => 0)
  | .evacTemplate => (match x.channel with | some k => chanSample emitted k | none => 0)

/-- The background sample of a zone (R30). -/
def State.backgroundSample (s : State) (slots : List Word) (z : ZoneId) : Word :=
  if s.mp.device = .quiet ∨ s.mp.device = .config then 0
  else if s.zones[z].own.owner? = some evacRef then 0
  else match s.background z with
    | some k => slotSample slots k
    | none => 0

/-- A gain code: the full sum, clamped once (R32). -/
def clampCode (sum : Int) : Int := clampInt (-120) 12 sum

/-- The foreground code for a class (R31, R32). -/
def State.foregroundCode (s : State) (z : ZoneId) (c : Cls) : Int :=
  clampCode (s.baseGain z + s.trim c + (s.zones[z].comp : Int) - (s.zones[z].limR : Int))

/-- The background code (R32). -/
def State.backgroundCode (s : State) (z : ZoneId) : Int :=
  clampCode (s.baseGain z + s.backgroundGain z + (s.zones[z].comp : Int) - (s.zones[z].limR : Int) -
    (s.zones[z].duck : Int))

/-- L(g) (R33). -/
def linear (g : Int) : Nat := if g ≤ -120 then 0 else Config.gainTable.getD (g + 119).toNat 0

/-- The foreground product of a zone (R34). -/
def State.foregroundProduct (s : State) (slots emitted : List Word) (z : ZoneId) : Int :=
  match s.zones[z].own.owner? with
  | none => 0
  | some r =>
    match s.recOf r with
    | none => 0
    | some x => (x.sample slots emitted).toInt * (linear (s.foregroundCode z x.cls) : Int)

/-- The background product of a zone (R34). -/
def State.backgroundProduct (s : State) (slots : List Word) (z : ZoneId) : Int :=
  (s.backgroundSample slots z).toInt * (linear (s.backgroundCode z) : Int)

/-- Scaling: floor((acc + 8192) / 16384) (R35). -/
def scaled (acc : Int) : Int := (acc + 8192) / 16384

/-- The zone is silent whatever its inputs (R27). -/
def Ownership.silent (o : Ownership) : Bool :=
  match o with
  | .disabled => true
  | .tripped => true
  | _ => false

/-- The scaled result of a zone before saturation; 0 for a zone that is silent (R27, R35). -/
def State.mixed (s : State) (slots emitted : List Word) (z : ZoneId) : Int :=
  if s.zones[z].own.silent then 0
  else scaled (s.foregroundProduct slots emitted z + s.backgroundProduct slots z)

/-- Saturation to the sample range (R36). -/
def saturate (v : Int) : Word := BitVec.ofInt 16 (clampInt (-32768) 32767 v)

/-- The result is outside the sample range (R36). -/
def saturates (v : Int) : Bool := decide (v < -32768) || decide (32767 < v)

/-- The output samples of the 24 zones (R26). -/
def State.mixAll (s : State) (slots emitted : List Word) : List Word :=
  allZones.map fun z => saturate (s.mixed slots emitted z)

/-- Each zone whose result saturated steps its clip counter (R36); `mix` is the state that was mixed. -/
def State.countClips (s mix : State) (slots emitted : List Word) : State :=
  allZones.foldl (fun t z =>
    if saturates (mix.mixed slots emitted z) then t.modZone z fun x => { x with clip := bump16 x.clip } else t) s

/-! ### The duck (R39, R40) -/

/-- One step of a duck toward its target (R39). -/
def stepToward (target d : Nat) : Nat := if d < target then d + 1 else if target < d then d - 1 else d

/-- The duck step of a zone: the target is D where the zone is OWNED at the duck step event, and 0 otherwise (R39,
section 2.1.1). A duck that a write of D left above the new D becomes D first and then takes its step: R40 and R39 fall
on one frame event, and the spec orders neither before the other (DESIGN CHOICE, log entry 46). -/
def Zone.duckStepped (x : Zone) (owned : Bool) (depth : Nat) : Zone :=
  { x with duck := stepToward (if owned then depth else 0) (min x.duck depth) }

/-- The duck step event, with the zones that are OWNED at it (R39). -/
def State.duckStep (s : State) (owned : ZoneSet) : State :=
  allZones.foldl (fun t z => t.modZone z fun x => x.duckStepped (hasZone owned z) (s.duckDepth z)) s

/-- The zones that are OWNED. -/
def State.ownedZones (s : State) : ZoneSet := zonesWhere fun z => s.zones[z].own.hasOwner

/-- The ducks take the step still owed to them (R39; DEDUCED, log entry 5). -/
def State.takeDuck (s : State) : State :=
  match s.owed.duck with
  | some owned => ({ s with owed := { s.owed with duck := none } }).duckStep owned
  | none => s

/-- At a frame event a duck above its D becomes D (R40). -/
def State.limitDucks (s : State) : State :=
  allZones.foldl (fun t z => t.modZone z fun x => { x with duck := min x.duck (s.duckDepth z) }) s

/-! ### Page activity and the hang timer (R41, R61) -/

/-- The magnitude of a sample; that of -32768 is 32768 (R41). -/
def magnitude (w : Word) : Nat := w.toInt.natAbs

/-- A page at a frame event: its hang timer runs, and a report of activity restarts it. When the timer runs out at
the very event of a report, both are kept to be taken in either order (R61, DEDUCED, log entry 9). -/
def Rec.pageTick (threshold : Nat) (slots : List Word) (x : Rec) : Rec :=
  match x.body with
  | .page slot hang timer report =>
    let active := decide (threshold ≤ magnitude (slotSample slots slot))
    if timer ≤ 1 then { x with body := .page slot hang 0 (report || active) }
    else { x with
      body := .page slot hang (if active then hang * Config.framesPerSecond else timer - 1) report }
  | _ => x

/-- Every open page at a frame event (R41). -/
def State.tickPages (s : State) (slots : List Word) : State :=
  (List.finRange 64).foldl (fun t h =>
    match s.recs[h] with
    | some x => if x.state = .live then t.setRec h (some (x.pageTick s.activityThreshold slots)) else t
    | none => t) s

/-- An open page whose hang timer has run out: its reference, and whether a report of activity stands against the
expiry. -/
def State.hungPage (s : State) : Option (RecRef × Bool) :=
  ((s.bySequence fun x => decide (x.state = .live) &&
    (match x.body with | .page _ _ timer _ => decide (timer = 0) | _ => false)).head?).map fun r =>
      (r, match s.recOf r with
        | some x => (match x.body with | .page _ _ _ report => report | _ => false)
        | none => false)

/-- A report restarts the page's hang timer with the full hang time (R61). -/
def Rec.restartHang (x : Rec) : Rec :=
  match x.body with
  | .page slot hang _ _ => { x with body := .page slot hang (hang * Config.framesPerSecond) false }
  | _ => x

end Sys2Proof.Machine
end

