-- ==== Sys2Proof/Machine/Trunk.lean ====
section
/-! DEFINITION. The Trunk Interface: reception of messages (R173 to R177), the frames the part sends (R167, R172),
the upstream merger (R178), alignment (R169 to R172), and the frame event (R168). -/

namespace Sys2Proof.Machine

/-! ### Reception (R173, R174, R175) -/

/-- One direction's reception while the octets of a frame are taken: the open message, the forward buffer, how many
taken messages were discarded, how many messages the buffer refused, and the taken messages completed. -/
structure Arrival where
  rx : Reception
  buf : List Item
  errors : Nat
  discards : Nat
  complete : List (List Byte)
  deriving DecidableEq, Repr

/-- An open message that the part takes is discarded: one request error (R174). -/
def Reception.lost (rx : Reception) : Nat := if rx.isOpen && rx.taken then 1 else 0

/-- A start flag opens a message with the destination octet `o`; an earlier open message is a start without end.
`own` is the part's address in the downstream direction, where messages are taken (R173, R174, R175). -/
def Arrival.openAt (a : Arrival) (own : Option Byte) (o : Byte) : Arrival :=
  let taken := match own with | some addr => decide (o = addr) || decide (o = broadcast) | none => false
  let wanted := match own with | some addr => decide (o ≠ addr) | none => true
  let room := decide (Config.messageLimit ≤ Config.forwardLimit - a.buf.length)
  { a with
    rx := ⟨true, [], taken, wanted && room⟩
    errors := a.errors + a.rx.lost
    discards := a.discards + (if wanted && !room then 1 else 0) }

/-- The end flag is placed on the last octet of the buffer, if it has not left already (R174, R175, DEDUCED, log
entry 14). -/
def markLast : List Item → List Item
  | [] => []
  | [x] => [{ x with last := true }]
  | x :: rest => x :: markLast rest

/-- A valid octet: of the open message, an overrun at its 248th octet, or of no message (R173, R174). The 248th octet is
an overrun whether it carries the end flag or not (DEDUCED, log entry 44). -/
def Arrival.octet (a : Arrival) (o : Byte) (first last : Bool) : Arrival :=
  if a.rx.isOpen then
    if Config.messageLimit ≤ a.rx.octets.length then
      { a with
        rx := .init, errors := a.errors + a.rx.lost
        buf := if a.rx.forwarded then markLast a.buf else a.buf }
    else
      let octets := a.rx.octets ++ [o]
      let buf := if a.rx.forwarded then a.buf ++ [⟨o, first, last⟩] else a.buf
      if last then
        { a with rx := .init, buf := buf, complete := if a.rx.taken then a.complete ++ [octets] else a.complete }
      else { a with rx := { a.rx with octets := octets }, buf := buf }
  else a

/-- The valid octets of a frame; the flags mark its first and its last valid octet (R173). -/
def Arrival.octets (own : Option Byte) (start fin : Bool) : Arrival → List Byte → Arrival
  | a, [] => a
  | a, o :: rest =>
    let a := if start then a.openAt own o else a
    Arrival.octets own false fin (a.octet o start (fin && rest.isEmpty)) rest

/-- A frame's message channel (R173, R193). -/
def Arrival.frame (own : Option Byte) (a : Arrival) (control : Byte) (octets : List Byte) : Arrival :=
  Arrival.octets own (startFlag control) (endFlag control) a (octets.take (validCount control))

/-- Steps a link counter `n` times; it stops at 65535 (R176). -/
def stepCounter (c n : Nat) : Nat := min 65535 (c + n)

/-- A completed message taken by the part is checked and offered to the request buffer (R173, R174, R177). -/
def MsgProc.offered (mp : MsgProc) (m : List Byte) : MsgProc :=
  if messageGood m then
    if mp.requests.length < Config.requestLimit then { mp with requests := mp.requests ++ [requestOf m] }
    else { mp with requestOverflows := bump16 mp.requestOverflows }
  else { mp with requestErrors := bump16 mp.requestErrors }

/-- The downstream message channel of a frame taken while ALIGNED (R173 to R177). -/
def State.receiveDown (s : State) (control : Byte) (octets : List Byte) : State :=
  let a := Arrival.frame (some s.ti.address) ⟨s.ti.downRx, s.ti.downBuf, 0, 0, []⟩ control octets
  { s with
    ti := { s.ti with downRx := a.rx, downBuf := a.buf }
    mp := a.complete.foldl MsgProc.offered
      { s.mp with
        requestErrors := stepCounter s.mp.requestErrors a.errors
        downDiscards := stepCounter s.mp.downDiscards a.discards } }

/-- The upstream message channel of a frame taken while ALIGNED (R175). -/
def State.receiveUp (s : State) (control : Byte) (octets : List Byte) : State :=
  let a := Arrival.frame none ⟨s.ti.upRx, s.ti.upBuf, 0, 0, []⟩ control octets
  { s with
    ti := { s.ti with upRx := a.rx, upBuf := a.buf }
    mp := { s.mp with upDiscards := stepCounter s.mp.upDiscards a.discards } }

/-! ### Sending -/

/-- The octets of at most `n` items from the head that belong to one message (R173). -/
def oneMessage : Nat → List Item → List Item
  | 0, _ => []
  | _ + 1, [] => []
  | n + 1, x :: rest =>
    if x.last then [x]
    else
      match rest with
      | y :: _ => if y.first then [x] else x :: oneMessage n rest
      | [] => [x]

/-- What a frame's message channel carries: its start flag, its end flag and its octets. -/
structure Carried where
  start : Bool
  fin : Bool
  octets : List Byte
  deriving DecidableEq, Repr

/-- An idle message channel. -/
def Carried.idle : Carried := ⟨false, false, []⟩

/-- Items as a frame carries them. -/
def carriedItems (l : List Item) : Carried :=
  ⟨match l.head? with | some x => x.first | none => false,
    match l.getLast? with | some x => x.last | none => false, l.map Item.octet⟩

/-- The control octet and message octets of the next frame the part sends. -/
def State.channelOctets (s : State) (c : Carried) : List Byte := messageChannel s.framesSent c.start c.fin c.octets

/-- The octets that entered the downstream forward buffer in earlier frames leave in this one (R174). -/
def State.sendDown (s : State) (samples : List Word) (commands : List ZoneCommand) (held : Nat) : State :=
  let items := oneMessage 4 (s.ti.downBuf.take held)
  { s with
    framesSent := s.framesSent + 1
    ti := { s.ti with
      downBuf := s.ti.downBuf.drop items.length
      downSent := downSyncOctet :: (samples.flatMap putWord ++ commandOctets commands ++
        s.channelOctets (carriedItems items)) } }

/-- The forwarded message being sent is over: its last octet has left, or another message's first octet stands
next (R173, R175, R178). -/
def Trunk.forwardOver (t : Trunk) : Bool :=
  match t.upBuf with
  | x :: _ => x.first
  | [] => !(t.upRx.isOpen && t.upRx.forwarded)

/-- The next octets of a part message (R178). -/
def Trunk.sendPart (t : Trunk) (start : Bool) (m : List Byte) : Trunk × Carried :=
  let rest := m.drop 4
  ({ t with sending := if rest = [] then .none else .part rest, lastPart := true },
    ⟨start, decide (rest = []), m.take 4⟩)

/-- The next octets of a forwarded message, of those that arrived before this frame; none where they have not arrived
(R178). -/
def Trunk.sendForward (t : Trunk) (held : Nat) : Trunk × Carried :=
  let items := oneMessage 4 (t.upBuf.take held)
  let ended := match items.getLast? with | some x => x.last | none => false
  ({ t with
      upBuf := t.upBuf.drop items.length, lastPart := false
      sending := if ended then .none else if items = [] then t.sending else .forwarded },
    carriedItems items)

/-- The merger begins the next message, of the kind it did not send last when both are ready (R178). A forwarded message
is ready from the arrival of its first octet (R175), and where that octet came with this very frame, the frame carries
none of it yet. -/
def State.mergeNext (s : State) (held : Nat) (t : Trunk) : State × Carried :=
  if t.upBuf ≠ [] ∧ (t.lastPart = true ∨ s.mp.outbound = []) then
    let p := ({ t with sending := .begun }).sendForward held
    ({ s with ti := p.1 }, p.2)
  else
    match s.mp.outbound with
    | m :: rest =>
      let p := t.sendPart true m
      ({ s with ti := p.1, mp := { s.mp with outbound := rest } }, p.2)
    | [] => ({ s with ti := { t with sending := .none } }, .idle)

/-- The merger at one upstream frame: it goes on with the message it is sending, or begins one (R178). `held` is
how many octets stood in the buffer before this frame's arrival. -/
def State.merge (s : State) (held : Nat) : State × Carried :=
  match s.ti.sending with
  | .part left => let p := s.ti.sendPart false left; ({ s with ti := p.1 }, p.2)
  | .begun => let p := s.ti.sendForward held; ({ s with ti := p.1 }, p.2)
  | .forwarded =>
    if s.ti.forwardOver then s.mergeNext held s.ti
    else let p := s.ti.sendForward held; ({ s with ti := p.1 }, p.2)
  | .none => s.mergeNext held s.ti

/-- An upstream frame is sent from the Up port (R172). -/
def State.sendUp (s : State) (words : List Word) (held : Nat) : State :=
  let p := s.merge held
  { p.1 with
    framesSent := s.framesSent + 1
    ti := { p.1.ti with upSent := upSyncOctet :: (words.flatMap putWord ++ s.channelOctets p.2) } }

/-! ### The frame event (R26, R83, R167, R168) -/

/-- A multiple of the period. -/
def multipleOf (period count : Nat) : Bool := decide (count % period = 0)

/-- The frame count after a frame event, and the events keyed to it (R39, R103, R145, R149, R168). -/
def State.countFrame (s : State) : State :=
  let n := countAdd s.ti.frameCount 1
  { s with
    ti := { s.ti with frameCount := n }
    owed := ⟨if multipleOf Config.duckPeriod n then some s.ownedZones else none, multipleOf Config.limiterPeriod n,
      multipleOf Config.compensationPeriod n, multipleOf Config.framesPerSecond n⟩ }

/-- What the channels emit (R83, R84). -/
def State.emissions (s : State) : List Word := (List.finRange 6).map fun k => (s.chans[k]).emit.2

/-- The channels after their emission (R83, R84). -/
def State.emitAll (s : State) : State := (List.finRange 6).foldl (fun s k => s.modChan k fun c => c.emit.1) s

/-- The test timer and the interval timer run (R138, R140). -/
def State.tickScan (s : State) : State :=
  s.setScan { s.scan with
    under := s.scan.under.map fun t => { t with timer := t.timer - 1 }
    interval := s.scan.interval.map fun n => n - 1 }

/-- The 24 sense words of type NONE of a frame the part makes itself (R172). What their value bits hold is a free value
(DESIGN CHOICE, log entry 39). -/
def noSense (frame : Nat) : List Word := (List.range 24).map fun z => (Config.noneValue frame z).setWidth 16

/-- The frame event: the inputs as they stand, the downstream frame, and the upstream frame that the part makes
itself while the upstream direction is not ALIGNED (R26, R40, R41, R83, R137, R167, R168, R172). At a duck step event
the zones are mixed with the ducks the step gives them (R39). -/
def State.frameEvent (s : State) (slots : List Word) (message : Option (Byte × List Byte)) : State :=
  let s := s.countFrame.limitDucks
  let emitted := s.emissions
  let mix := s.takeDuck
  let samples := mix.mixAll slots emitted
  let commands := allZones.map s.zoneCommand
  let s := ((s.emitAll.countClips mix slots emitted).tickPages slots).tickScan
  let held := s.ti.downBuf.length
  let s := match message with
    | some m => s.receiveDown m.1 m.2
    | none => s
  let s := s.sendDown samples commands held
  if s.ti.upAlign = .aligned then s else s.sendUp (noSense s.framesSent) s.ti.upBuf.length

/-- Loop waits end, before the emission (R84, R85). -/
def State.loopWaits (s : State) : State :=
  s.push (((List.finRange 6).filter fun k => (s.chans[k]).loopWait).map Task.endLoopWait)

/-- The eight source samples read as 0 (R170). -/
def silentSlots : List Word := List.replicate 8 0

/-! ### Downstream alignment (R169, R170, R171) -/

/-- The entry into HOLDOVER: the local frame timer starts, the message in reception and the forward buffer go, and
every open page ends (R170). -/
def State.enterHoldover (s : State) : State :=
  let s := s.setDownAlign .lost
  let s := { s with
    ti := { s.ti with downGood := 0, downBad := 0, timerRunning := true, downRx := .init, downBuf := [] }
    mp := { s.mp with
      downLosses := bump16 s.mp.downLosses
      requestErrors := stepCounter s.mp.requestErrors s.ti.downRx.lost } }
  s.push (s.endings Rec.isPage .linkLost)

/-- The sync octet of a frame taken while ALIGNED (R169). -/
def State.downSync (s : State) (good : Bool) : State :=
  if good then { s with ti := { s.ti with downBad := 0 } }
  else if s.ti.downBad + 1 < 3 then { s with ti := { s.ti with downBad := s.ti.downBad + 1 } }
  else s.enterHoldover

/-- The fourth good sync octet: ALIGNED, and the local frame timer stops (R171). -/
def State.enterAligned (s : State) : State :=
  let s := s.setDownAlign .aligned
  { s with ti := { s.ti with downGood := 0, downBad := 0, timerRunning := false } }

/-- The work of a frame event: what the frame event before it left to be taken, and the frame event itself. -/
def frameTasks (slots : List Word) (message : Option (Byte × List Byte)) : List Task :=
  [.takeEnds, .passIfDue, .takeOwed, .loopWaits, .frameEvent slots message]

/-- The work of a frame event that a downstream frame makes. -/
def frameWork (f : List Byte) : List Task := frameTasks (frameSlots f) (some (downMessage f))

/-- A downstream frame arrives at the Up port (R168, R169, R171). -/
def State.downArrival (s : State) (f : List Byte) : State :=
  let good := decide (f.getD 0 0 = downSyncOctet)
  match s.ti.downAlign with
  | .aligned => s.push (frameWork f ++ [.downSync good])
  | .search | .lost =>
    if good then
      if s.ti.downGood + 1 < 4 then { s with ti := { s.ti with downGood := s.ti.downGood + 1 } }
      else s.enterAligned.push (frameWork f)
    else { s with ti := { s.ti with downGood := 0 } }

/-! ### Upstream alignment (R172) -/

/-- The entry into LOST: the message in reception is ended at its last octet received (R172, R175). -/
def State.enterLost (s : State) : State :=
  let s := s.setUpAlign .lost
  { s with
    ti := { s.ti with
      upGood := 0, upBad := 0, upRx := .init
      upBuf := if s.ti.upRx.isOpen && s.ti.upRx.forwarded then markLast s.ti.upBuf else s.ti.upBuf }
    mp := { s.mp with upLosses := bump16 s.mp.upLosses } }

/-- An upstream frame is taken whole and relayed (R172). DESIGN CHOICE, log entry 7. -/
def State.relay (s : State) (f : List Byte) : State :=
  let held := s.ti.upBuf.length
  let m := upMessage f
  ((s.receiveUp m.1 m.2).sendUp (senseWords f) held).push
    (allZones.map fun z => Task.senseWord z ((senseWords f).getD z.val 0))

/-- An upstream frame arrives at the Down port (R172). -/
def State.upArrival (s : State) (f : List Byte) : State :=
  let good := decide (f.getD 0 0 = upSyncOctet)
  match s.ti.upAlign with
  | .aligned =>
    if good then ({ s with ti := { s.ti with upBad := 0 } }).relay f
    else if s.ti.upBad + 1 < 3 then ({ s with ti := { s.ti with upBad := s.ti.upBad + 1 } }).relay f
    else s.enterLost
  | .search | .lost =>
    if good then
      if s.ti.upGood + 1 < 4 then { s with ti := { s.ti with upGood := s.ti.upGood + 1 } }
      else
        let s := s.setUpAlign .aligned
        ({ s with ti := { s.ti with upGood := 0, upBad := 0 } }).relay f
    else { s with ti := { s.ti with upGood := 0 } }

end Sys2Proof.Machine
end

