-- ==== Sys2Proof/Machine/Cascade.lean ====
section
/-! DEFINITION. The work inside a command: what each piece of work does, the carrying out of a command's work in
order (95_what_each_step_holds.md, log entries 5 and 6), and the frame of a command. -/

namespace Sys2Proof.Machine

/-- The ends of elements not taken yet are taken, in ascending channel order (R85, R87; DEDUCED, log entry 5). -/
def State.takeEnds (s : State) : State :=
  s.push (((List.finRange 6).filter fun k => (s.chans[k]).ended).map Task.takeEnd)

/-- The interval timer has run out (R138). -/
def State.roundDue (s : State) : Bool := decide (s.scan.interval = some 0)

/-- The test whose timer has run out (R141). -/
def State.testDue (s : State) : Option TestRun :=
  match s.scan.under with
  | some t => if t.timer = 0 then some t else none
  | none => none

/-- One event of the latest frame count that is still owed is taken, and then the rest (DEDUCED, log entry 5). A report
of page activity that met the timer's expiry is taken before it (R61, DEDUCED, log entry 9). -/
def State.takeOwed (s : State) : State :=
  if s.owed.limiter then
    ({ s with owed := { s.owed with limiter := false } }).push (allZones.map Task.limiterZone ++ [Task.takeOwed])
  else if s.owed.compensation then
    ({ s with owed := { s.owed with compensation := false } }).compensationStep.push [.takeOwed]
  else if s.owed.second then
    (({ s with owed := { s.owed with second := false } }).secondEvent false).push [.passIfDue, .takeOwed]
  else
    match s.hungPage with
    | some (r, true) => (s.modRec r Rec.restartHang).push [.takeOwed]
    | some (r, false) => s.push [.endRecord r .hang, .takeOwed]
    | none =>
      match s.testDue with
      | some t => (s.push [.takeOwed]).endTest t
      | none => if s.roundDue then s.beginRound.push [.takeOwed] else s.push [.passIfDue]

/-- A call record is rewritten in its slot (R117). -/
def State.rewriteCall (s : State) (i : CallSlot) (c : Call) : State := s.setCall i (some c)

/-- A slot is freed (R118). -/
def State.freeCall (s : State) (i : CallSlot) : State := s.setCall i none

/-- What a piece of work does. -/
def runTask (t : Task) (s : State) : State :=
  match t with
  | .beginElement k armed => s.beginElement k armed
  | .endElement k => s.endElement k
  | .takeEnd k => s.takeEnd k
  | .beginNext k r => s.beginNext k r
  | .endLoopWait k => s.endLoopWait k
  | .resume r => s.resumeRecord r
  | .pauseAfter r => s.pauseAfter r
  | .channelIdle => s.channelIdle
  | .boundary r => s.boundary r
  | .mature z r => s.mature z r
  | .takeReserved z r => s.takeReserved z r
  | .joinWanted z r => s.joinWanted z r
  | .claimWanted z r => s.claimWanted z r
  | .claimFree z r => s.claimFree z r
  | .releaseOwned z r => s.releaseOwned z r
  | .choose z w => s.choose z w
  | .popStack z => s.popStack z
  | .evacTake z => s.evacTake z
  | .addFallback z => s.addFallback z
  | .complete r => s.complete r
  | .endRecord r o => s.endRecord r o
  | .finishRecord r o => s.finishRecord r o
  | .start r => s.startRecord r
  | .resolveAndClaim r => s.resolveAndClaim r
  | .claimAtStart z r => s.claimAtStart z r
  | .finishStart r => s.finishStart r
  | .formPageStart r => s.formPageStart r
  | .passIfDue => s.passIfDue
  | .passVisit after => s.passVisit after
  | .rejoinPaused => s.rejoinPaused
  | .rejoinRecord r => s.rejoinRecord r
  | .rejoinPlaying => s.rejoinPlaying
  | .buildEvac body template zones => s.buildEvac body template zones
  | .replaceEvac body template zones => s.replaceEvac body template zones
  | .evacChannel had => s.evacChannel had
  | .formEvacStart => s.formEvacStart
  | .startEvac => s.startEvac
  | .placeEvacDone => s.placeEvacDone
  | .scanTurn => s.nextTurn
  | .clearZone z => s.clearZone z
  | .placeCleared mask => s.placeCleared mask
  | .senseWord z w => s.senseWord z w
  | .limiterZone z => s.limiterZone z
  | .takeOwed => s.takeOwed
  | .loopWaits => s.loopWaits
  | .frameEvent slots message => s.frameEvent slots message
  | .downSync good => s.downSync good
  | .rewriteCall i c => s.rewriteCall i c
  | .freeCall i => s.freeCall i
  | .rearm i l => s.rearm i l
  | .takeEnds => s.takeEnds
  | .zoneWritten z before control blanks => s.zoneWritten z before control blanks
  | .result q code items => s.placeResult q code items

/-- Carries out pieces of work, first to do first, up to a number of them (DESIGN CHOICE, log entry 6). -/
def drain : Nat → State → State
  | 0, s => s
  | n + 1, s =>
    match s.work with
    | [] => s
    | t :: rest => drain n (runTask t { s with work := rest })

/-- Carries out all the work there is, within the model's bound. -/
def State.finish (s : State) : State := drain Config.workBound s

/-- Nothing is left to be taken before a command: no work, no soft reset, no duck step (log entries 5 and 6). -/
def State.settled (s : State) : Bool := s.work.isEmpty && !s.softResetDue && s.owed.duck.isNone

/-- What stands before a command is taken first: work left over, and a soft reset that is due (R192). -/
def State.settleWork (s : State) : State :=
  if s.work.isEmpty && !s.softResetDue then s
  else
    let s := ({ s with work := s.work ++ [Task.passIfDue] }).finish
    if s.softResetDue then s.softReset else s

/-- Before any command but DUCK_STEP_EVENT the duck step of the latest frame event is taken too, and first, so that no
command comes between that frame event and its step (R39; DEDUCED, log entry 5). -/
def State.settle (s : State) : State := s.takeDuck.settleWork

/-- A command's own work, and after it the admission pass, if a cause was noted (R53). -/
def State.carryOut (s : State) (f : State → State) : State :=
  let s := f s
  ({ s with work := s.work ++ [Task.passIfDue] }).finish

/-- The frame of every command but the two of the reset pin: while the pin is held nothing happens (R167). DESIGN
CHOICE, log entry 4. -/
def State.command (s : State) (f : State → State) : State := if s.pinHeld then s else s.settle.carryOut f

end Sys2Proof.Machine
end

