-- ==== Sys2Proof/Machine/Status.lean ====
section
/-! DEFINITION. The status and counters region of Parameter Memory, and reading a word of any region (R24, R43, R63,
R78, R97, R122, R155, R156, R176, R183, R184, R197). -/

namespace Sys2Proof.Machine

/-- A status word of a number. -/
def statusWord (n : Nat) : Word := BitVec.ofNat 16 n

/-- An item that may be absent: absent reads 0xFFFF (R197). -/
def statusOpt : Option Nat → Word
  | some n => statusWord n
  | none => 0xFFFF

/-- A flag as a number. -/
def flagNat (b : Bool) : Nat := if b then 1 else 0

/-- Free handles of 0..62 (R63). -/
def State.freeHandles (s : State) : Nat :=
  ((List.finRange 64).filter fun h => decide (h.val < 63) && (s.recs[h]).isNone).length

/-- Link counter `i`, in the order of the table of R176. -/
def MsgProc.linkCounter (mp : MsgProc) (i : Nat) : Nat :=
  match i with
  | 0 => mp.requestErrors
  | 1 => mp.requestOverflows
  | 2 => mp.downDiscards
  | 3 => mp.upDiscards
  | 4 => mp.downLosses
  | _ => mp.upLosses

/-- Whole seconds to the interval timer's expiry, rounded up; absent in a round (R155). -/
def State.intervalSeconds (s : State) : Option Nat :=
  if s.scan.round then none
  else s.scan.interval.map fun n => (n + (Config.framesPerSecond - 1)) / Config.framesPerSecond

/-- A word of the device block (R197). -/
def State.deviceStatus (s : State) (o : Nat) : Word :=
  match o with
  | 0 => statusWord s.mp.device.code
  | 1 => statusOpt (s.mp.prior.map DeviceState.code)
  | 2 => statusWord s.ti.downAlign.code
  | 3 => statusWord s.ti.upAlign.code
  | 4 => statusWord s.clock.day
  | 5 => statusWord (s.clock.second / 65536)
  | 6 => statusWord s.clock.second
  | 7 => statusWord (flagNat s.clock.valid)
  | 8 => statusWord s.callCount
  | 9 => statusWord s.queue.length
  | 10 => statusWord s.freeHandles
  | 11 => statusWord s.ti.address.toNat
  | 12 => statusWord s.mp.requests.length
  | 13 => statusWord (flagNat s.scan.round)
  | 14 => statusOpt (s.scan.under.map fun t => t.zone.val)
  | 15 => statusWord s.scan.roundList.length
  | 16 => statusWord s.scan.clearList.length
  | 17 => statusOpt s.intervalSeconds
  | 18 => statusWord (flagNat s.port.busy.isSome)
  | 19 => statusOpt (s.port.busy.map fun b => b.chan.val)
  | 20 => statusWord s.port.lastGranted.val
  | 21 => statusWord s.skipped
  | _ =>
    if o < 28 then statusWord (s.mp.linkCounter (o - 22))
    else if o < 36 then statusOpt ((s.openPage (Fin.ofNat 8 (o - 28))).map fun r => r.handle.val)
    else 0

/-- The pending claim of a zone. -/
def Ownership.claim? : Ownership → Option RecRef
  | .owned _ p => p
  | _ => none

/-- The reservation of a zone. -/
def Ownership.reservation? : Ownership → Option RecRef
  | .reserved r => some r
  | _ => none

/-- A handle, or "none". -/
def statusHandle (r : Option RecRef) : Word := statusOpt (r.map fun q => q.handle.val)

/-- A word of a zone block (R197). -/
def State.zoneStatus (s : State) (x : Zone) (o : Nat) : Word :=
  match o with
  | 0 => statusWord (x.own.code + x.stack.length * 16 + x.line.code * 256 + x.trip.code * 4096)
  | 1 => statusHandle x.own.owner?
  | 2 => statusHandle x.own.claim?
  | 3 => statusHandle x.own.reservation?
  | 4 => statusWord x.duck
  | 5 => statusWord x.clip
  | 6 => statusWord (x.overCount + x.noReport * 256)
  | 7 => statusWord (x.appliedMode.code + x.appliedTimeout.code * 4 + flagNat x.tripOverride * 16 +
      flagNat x.limActive * 32)
  | 8 => statusWord x.limR
  | 9 => statusWord x.elapsed
  | 10 => statusWord x.comp
  | 11 => statusWord x.cTarget
  | 12 => statusWord (x.compStatus + flagNat (s.blanked x) * 256)
  | _ => 0

/-- The list length of the record bound to a channel. -/
def State.boundList (s : State) (c : Channel) : Option Nat :=
  c.bound.bind fun b => (s.recOf b.ref).map fun x => x.list.length

/-- A word of a channel block (R197). -/
def State.chanStatus (s : State) (c : Channel) (o : Nat) : Word :=
  match o with
  | 0 => statusWord (c.state.code + flagNat c.endFlag * 16 + flagNat c.loop * 32)
  | 1 => statusHandle (c.bound.map Bound.ref)
  | 2 => statusOpt (s.boundList c)
  | 3 => statusOpt (c.bound.map fun _ => c.index)
  | 4 => statusWord c.fifo.length
  | 5 => statusWord c.underrun
  | _ => 0

/-- A word of the status and counters region (R197). -/
def State.statusAt (s : State) (a : Nat) : Word :=
  if a < 0x3040 then s.deviceStatus (a - 0x3000)
  else if h : (a - 0x3040) / 16 < 24 then s.zoneStatus (s.zones[(a - 0x3040) / 16]) ((a - 0x3040) % 16)
  else if a < 0x3200 then 0
  else if h : (a - 0x3200) / 16 < 6 then s.chanStatus (s.chans[(a - 0x3200) / 16]) ((a - 0x3200) % 16)
  else 0

/-- A readable word of Parameter Memory as it stands (R183, R184). -/
def State.readParam (s : State) (a : Nat) : Word := if 0x3000 ≤ a then s.statusAt a else s.word a

/-- `n` words from an address upward. -/
def State.readParams (s : State) (a n : Nat) : List Word := (List.range n).map fun i => s.readParam (a + i)

end Sys2Proof.Machine
end

