-- ==== Sys2Proof/Machine/Requests.lean ====
section
/-! DEFINITION. The requests of the head end, one meaning for each row that MP takes from the request buffer
(R180, R181): the write and read of Parameter Memory, device states, clock, calls and running events, announcements
and pages, evacuation, FAULT_CLEAR, RESET, and the two refusals of unknown codes. -/

namespace Sys2Proof.Machine

/-! ### Taking and answering (R180, R181) -/

/-- The places of the outbound queue that a request reserves at its taking (R44, R180). -/
def placesFor (q : Request) : Nat := if q.type.toNat = TypeCode.evacEnd then 2 else 1

/-- The request at the head of the buffer that MP can take now (R180, R192). -/
def State.takeable (s : State) : Option Request :=
  if s.mp.resetting then none
  else match s.mp.requests with
    | [] => none
    | q :: _ => if placesFor q ≤ s.freePlaces then some q else none

/-- The state once MP has taken the request: it leaves the buffer, and its places are reserved (R180). -/
def State.taken (s : State) (q : Request) : State :=
  { s with mp := { s.mp with requests := s.mp.requests.tail, reserved := s.mp.reserved + placesFor q } }

/-- MP takes the request at the head of the buffer, if it can be taken and is one of the row's, and carries it out
(R180). DESIGN CHOICE, log entry 18. -/
def State.takeRequest (s : State) (row : State → Request → Bool) (carry : State → Request → State) : State :=
  match s.takeable with
  | some q => if row s q then carry (s.taken q) q else s
  | none => s

/-- The request's type is the given one. -/
def typeIs (n : Nat) (_ : State) (q : Request) : Bool := decide (q.type.toNat = n)

/-- The RESULT follows the work that stands before it (R180). -/
def State.answer (s : State) (q : Request) (code : Nat) (items : List Byte) : State := s.push [.result q code items]

/-- A payload of another length refuses the request with BAD_LENGTH (R181). -/
def State.sized (s : State) (q : Request) (n : Nat) (refused : List Byte) (carry : State) : State :=
  if q.payload.length = n then carry else s.answer q ResultCode.badLength refused

/-- What a refused ANNOUNCE or PAGE_OPEN carries after its code (R181). -/
def noHandleItem : List Byte := put1 noneOctet

/-! ### PARAM_WRITE (R185) -/

/-- PARAM_WRITE carried out (R181, R185). DEDUCED, log entry 19. -/
def State.carryWrite (s : State) (q : Request) : State :=
  let p := q.payload
  if p.length < 3 then s.answer q ResultCode.badLength []
  else if countOk p = false then s.answer q ResultCode.badValue []
  else if p.length ≠ 3 + 2 * paramCount p then s.answer q ResultCode.badLength []
  else if ((writeItems p).all fun i => writable i.1) = false then s.answer q ResultCode.badAddress []
  else if ((writeItems p).all fun i => codesExist i.1 i.2) = false then s.answer q ResultCode.badValue []
  else (s.answer q ResultCode.ok []).performWrite (writeItems p)

/-- A write whose kind has a row of its own. -/
def writeOf (kind : State → List (Nat × Word) → Bool) (s : State) (q : Request) : Bool :=
  typeIs TypeCode.paramWrite s q && goodWrite q.payload && kind s (writeItems q.payload)

/-- Every other write, the refused ones among them. -/
def plainWrite (s : State) (q : Request) : Bool :=
  typeIs TypeCode.paramWrite s q && !(goodWrite q.payload && hasOwnRow s (writeItems q.payload))

/-- A row of PARAM_WRITE. -/
def State.writeRow (s : State) (row : State → Request → Bool) : State :=
  s.command fun s => s.takeRequest row State.carryWrite

/-- PARAM_WRITE (R185). -/
def execParamWrite (s : State) : Host.Outcome State Fault Refusal := .next (s.writeRow plainWrite)

/-- ZONE_ENABLE_WRITE (R5). -/
def execZoneEnableWrite (s : State) : Host.Outcome State Fault Refusal := .next (s.writeRow (writeOf isZoneEnable))

/-- ZONE_DISABLE_WRITE (R6). -/
def execZoneDisableWrite (s : State) : Host.Outcome State Fault Refusal := .next (s.writeRow (writeOf isZoneDisable))

/-- LIMITER_MODE_WRITE (R143). -/
def execLimiterModeWrite (s : State) : Host.Outcome State Fault Refusal := .next (s.writeRow (writeOf isLimiterMode))

/-- COMPENSATION_WRITE (R147). -/
def execCompensationWrite (s : State) : Host.Outcome State Fault Refusal :=
  .next (s.writeRow (writeOf isCompensation))

/-- DUCK_DEPTH_WRITE (R40). -/
def execDuckDepthWrite (s : State) : Host.Outcome State Fault Refusal := .next (s.writeRow (writeOf isDuckDepth))

/-- LATE_THRESHOLD_WRITE (R101). -/
def execLateThresholdWrite (s : State) : Host.Outcome State Fault Refusal :=
  .next (s.writeRow (writeOf isLateThreshold))

/-- CHANGE_MASK_WRITE (R189). -/
def execChangeMaskWrite (s : State) : Host.Outcome State Fault Refusal := .next (s.writeRow (writeOf isChangeMask))

/-- CLIP_COUNTER_CLEAR (R37). -/
def execClipCounterClear (s : State) : Host.Outcome State Fault Refusal := .next (s.writeRow (writeOf isClipClear))

/-- UNDERRUN_COUNTER_CLEAR (R97). -/
def execUnderrunCounterClear (s : State) : Host.Outcome State Fault Refusal :=
  .next (s.writeRow (writeOf isUnderrunClear))

/-- SKIPPED_COUNT_CLEAR (R78). -/
def execSkippedCountClear (s : State) : Host.Outcome State Fault Refusal :=
  .next (s.writeRow (writeOf isSkippedClear))

/-- LINK_COUNTER_CLEAR (R176). -/
def execLinkCounterClear (s : State) : Host.Outcome State Fault Refusal := .next (s.writeRow (writeOf isLinkClear))

/-! ### PARAM_READ (R184) -/

/-- PARAM_READ carried out (R181, R184). -/
def State.carryRead (s : State) (q : Request) : State :=
  let p := q.payload
  if p.length < 3 then s.answer q ResultCode.badLength []
  else if countOk p = false then s.answer q ResultCode.badValue []
  else if p.length ≠ 3 then s.answer q ResultCode.badLength []
  else if ((List.range (paramCount p)).all fun i => readable (paramStart p + i)) = false then
    s.answer q ResultCode.badAddress []
  else s.answer q ResultCode.ok ((s.readParams (paramStart p) (paramCount p)).flatMap putWord)

/-- PARAM_READ (R184). -/
def execParamRead (s : State) : Host.Outcome State Fault Refusal :=
  .next (s.command fun s => s.takeRequest (typeIs TypeCode.paramRead) State.carryRead)

/-! ### STATE_SET and TIME_SET (R157, R104) -/

/-- The target of a STATE_SET (R195). -/
def targetOf : Nat → Option DeviceState
  | 0 => some .config
  | 1 => some .run
  | 2 => some .quiet
  | _ => none

/-- STATE_SET carried out (R157, R159, R160). -/
def State.carryStateSet (s : State) (q : Request) : State :=
  s.sized q 1 [] <|
    match targetOf (octet q.payload 0) with
    | none => s.answer q ResultCode.badValue []
    | some d =>
      if s.mp.device = .evac then s.answer q ResultCode.state []
      else if d = .quiet ∧ s.mp.device = .config then s.answer q ResultCode.state []
      else if d = s.mp.device then s.answer q ResultCode.ok []
      else if d = .config then
        let s := s.setDevice d
        let l := s.endings endsAtConfig .abortedState
        (s.noteEndings l).push (l ++ [.result q ResultCode.ok []])
      else ((s.setDevice d).notePass).answer q ResultCode.ok []

/-- STATE_SET (R157). -/
def execStateSet (s : State) : Host.Outcome State Fault Refusal :=
  .next (s.command fun s => s.takeRequest (typeIs TypeCode.stateSet) State.carryStateSet)

/-- TIME_SET carried out (R104). -/
def State.carryTimeSet (s : State) (q : Request) : State :=
  s.sized q 5 [] <|
    if Config.daySeconds ≤ field3 q.payload 2 then s.answer q ResultCode.badValue []
    else (s.setClock ⟨field2 q.payload 0, field3 q.payload 2, true⟩).answer q ResultCode.ok []

/-- TIME_SET (R104). -/
def execTimeSet (s : State) : Host.Outcome State Fault Refusal :=
  .next (s.command fun s => s.takeRequest (typeIs TypeCode.timeSet) State.carryTimeSet)

/-! ### CALL_SET and CALL_DELETE (R115 to R118) -/

/-- Amendment ends the call's TIMETABLE announcements, and the given work follows (R117, R128). -/
def State.amend (s : State) (id : Nat) (rest : List Task) : State :=
  let l := s.endings (timetableOf id) .amended
  (s.noteEndings l).push (l ++ rest)

/-- CALL_SET carried out (R115, R116, R117). -/
def State.carryCallSet (s : State) (q : Request) : State :=
  let p := q.payload
  s.sized q 18 [] <|
    if callFieldsOk p then
      let c := callOfPayload s.lateThreshold p
      match s.findCall c.id with
      | some i =>
        s.amend c.id [.rewriteCall i c, .result q ResultCode.ok []]
      | none =>
        (match s.freeSlot with
          | none => s.answer q ResultCode.tableFull []
          | some i => (s.setCall i (some c)).answer q ResultCode.ok [])
    else s.answer q ResultCode.badValue []

/-- CALL_SET (R115). -/
def execCallSet (s : State) : Host.Outcome State Fault Refusal :=
  .next (s.command fun s => s.takeRequest (typeIs TypeCode.callSet) State.carryCallSet)

/-- CALL_DELETE carried out (R118). -/
def State.carryCallDelete (s : State) (q : Request) : State :=
  s.sized q 2 [] <|
    match s.findCall (field2 q.payload 0) with
    | none => s.answer q ResultCode.unknownCall []
    | some i =>
      s.push (s.endings (announcementOf (field2 q.payload 0)) .withdrawn ++
        [.freeCall i, .result q ResultCode.ok []])

/-- CALL_DELETE (R118). -/
def execCallDelete (s : State) : Host.Outcome State Fault Refusal :=
  .next (s.command fun s => s.takeRequest (typeIs TypeCode.callDelete) State.carryCallDelete)

/-! ### CALL_EVENT (R123) -/

/-- The running event a CALL_EVENT names, if its payload reaches the event code (R123, R196). DEDUCED, log entry 19. -/
def eventOf (p : List Byte) : Option RunEvent := if p.length < 3 then none else runEventOf (octet p 2)

/-- A CALL_EVENT of the given event. -/
def eventIs (e : RunEvent) (s : State) (q : Request) : Bool :=
  typeIs TypeCode.callEvent s q && decide (eventOf q.payload = some e)

/-- The call record a CALL_EVENT names; call id 0 names none (R123). -/
def State.eventCall (s : State) (id : Nat) : Option (CallSlot × Call) :=
  if id = 0 then none else (s.findCall id).bind fun i => (s.calls[i]).map fun c => (i, c)

/-- The checks of R123, and then the event's own work on the slot, the call and the value. -/
def State.carryEvent (s : State) (q : Request) (e : RunEvent) (act : State → CallSlot → Call → Nat → State) :
    State :=
  let p := q.payload
  s.sized q 5 [] <|
    match s.eventCall (field2 p 0) with
    | none => s.answer q ResultCode.unknownCall []
    | some (i, c) =>
      if e = .platform ∧ (field2 p 3 < 1 ∨ 32 < field2 p 3) then s.answer q ResultCode.badValue []
      else if e.accepts c.state then act s i c (field2 p 3)
      else s.answer q ResultCode.state []

/-- A row of CALL_EVENT. -/
def State.eventRow (s : State) (e : RunEvent) (act : State → Request → CallSlot → Call → Nat → State) : State :=
  s.command fun s => s.takeRequest (eventIs e) fun s q => s.carryEvent q e fun s => act s q

/-- DELAY (R125). -/
def execDelay (s : State) : Host.Outcome State Fault Refusal :=
  .next (s.eventRow .delay fun s q i c v =>
    (s.setCall i (some (c.delayed s.lateThreshold (delayOf v)))).answer q ResultCode.ok [])

/-- PLATFORM carried out (R127, R128, R129). -/
def State.carryPlatform (s : State) (q : Request) (i : CallSlot) (c : Call) (v : Nat) : State :=
  if v = c.platform then s.answer q ResultCode.ok []
  else
    (s.setCall i (some (c.moved v))).amend c.id [.rearm i (s.rearmed c), .result q ResultCode.ok []]

/-- PLATFORM (R127). -/
def execPlatform (s : State) : Host.Outcome State Fault Refusal := .next (s.eventRow .platform State.carryPlatform)

/-- ARRIVED (R130). -/
def execArrived (s : State) : Host.Outcome State Fault Refusal :=
  .next (s.eventRow .arrived fun s q i c _ => (s.setCall i (some c.hasArrived)).answer q ResultCode.ok [])

/-- DEPARTED (R131). -/
def execDeparted (s : State) : Host.Outcome State Fault Refusal :=
  .next (s.eventRow .departed fun s q i c _ =>
    (s.setCall i (some (c.hasDeparted (s.departRetire c)))).answer q ResultCode.ok [])

/-- CANCEL (R132). -/
def execCancel (s : State) : Host.Outcome State Fault Refusal :=
  .next (s.eventRow .cancel fun s q i c _ =>
    (s.setCall i (some c.withCancel)).amend c.id [.result q ResultCode.ok []])

/-- REINSTATE (R133). -/
def execReinstate (s : State) : Host.Outcome State Fault Refusal :=
  .next (s.eventRow .reinstate fun s q i c _ => (s.setCall i (some (s.reinstated c))).answer q ResultCode.ok [])

/-- UNKNOWN_EVENT_CODE carried out (R123, R181). -/
def State.carryUnknownEvent (s : State) (q : Request) : State :=
  s.sized q 5 [] (s.answer q ResultCode.badValue [])

/-- UNKNOWN_EVENT_CODE (R123). -/
def execUnknownEventCode (s : State) : Host.Outcome State Fault Refusal :=
  .next (s.command fun s =>
    s.takeRequest (fun s q => typeIs TypeCode.callEvent s q && decide (eventOf q.payload = none))
      State.carryUnknownEvent)

/-! ### Announcements and pages (R49, R60, R62) -/

/-- The valid-until of an ANNOUNCE: absent for a valid-for of 0 or with the clock INVALID (R46, R49). -/
def State.validUntil (s : State) (validFor : Nat) : Option Nat :=
  if validFor = 0 ∨ s.clock.valid = false then none else some (s.clock.seconds + min validFor 3600)

/-- The class of an ANNOUNCE, if it names one an announcement can have (R46, R49). -/
def announceClass (p : List Byte) : Option Cls :=
  match clsOfCode (octet p 1) with
  | some .live => none
  | c => c

/-- The record an ANNOUNCE asks for (R46, R47). -/
def State.announceRec (s : State) (p : List Byte) (c : Cls) : Rec :=
  queuedRec .manual c (octet p 0) (if field2 p 5 = 0 then none else some (field2 p 5)) none (maskAt p 2)
    (s.formEffective (maskAt p 2) c) (s.validUntil (field2 p 7)) (octet p 9 % 2 == 1) (octet p 9 / 2 % 2 == 1)

/-- ANNOUNCE carried out (R49, R51). -/
def State.carryAnnounce (s : State) (q : Request) : State :=
  let p := q.payload
  s.sized q 10 noHandleItem <|
    if s.mp.device = .config then s.answer q ResultCode.notArmed noHandleItem
    else
      match announceClass p with
      | none => s.answer q ResultCode.badValue noHandleItem
      | some c =>
        if octet p 0 > 127 ∨ s.templateEmpty (octet p 0) = true then s.answer q ResultCode.badValue noHandleItem
        else if field2 p 5 ≠ 0 ∧ (s.findCall (field2 p 5)).isNone = true then
          s.answer q ResultCode.unknownCall noHandleItem
        else if s.formEffective (maskAt p 2) c = 0 then s.answer q ResultCode.noZone noHandleItem
        else
          match s.enqueue (s.announceRec p c) with
          | .error code => s.answer q code noHandleItem
          | .ok (t, h) => t.answer q ResultCode.ok (put1 h.val)

/-- ANNOUNCE (R49). -/
def execAnnounce (s : State) : Host.Outcome State Fault Refusal :=
  .next (s.command fun s => s.takeRequest (typeIs TypeCode.announce) State.carryAnnounce)

/-- The reference of the record under a handle number, while it has not ended (R62). -/
def State.namedRecord (s : State) (n : Nat) : Option (RecRef × Rec) :=
  if h : n < 64 then
    match s.recs[n] with
    | some x => if x.unfinished then some (refAt ⟨n, h⟩ x, x) else none
    | none => none
  else none

/-- ANN_CANCEL carried out (R62, R181). -/
def State.carryAnnCancel (s : State) (q : Request) : State :=
  let n := octet q.payload 0
  s.sized q 1 [] <|
    if n > 63 then s.answer q ResultCode.badValue []
    else
      match s.namedRecord n with
      | none => s.answer q ResultCode.unknownHandle []
      | some (r, _) =>
        if n = 63 then s.answer q ResultCode.state []
        else s.push [.endRecord r .cancelled, .result q ResultCode.ok []]

/-- ANN_CANCEL (R62). -/
def execAnnCancel (s : State) : Host.Outcome State Fault Refusal :=
  .next (s.command fun s => s.takeRequest (typeIs TypeCode.annCancel) State.carryAnnCancel)

/-- PAGE_CLOSE carried out (R62, R181). -/
def State.carryPageClose (s : State) (q : Request) : State :=
  let n := octet q.payload 0
  s.sized q 1 [] <|
    if n > 63 then s.answer q ResultCode.badValue []
    else
      match s.namedRecord n with
      | none => s.answer q ResultCode.unknownHandle []
      | some (r, x) =>
        if x.isPage then s.push [.endRecord r .closed, .result q ResultCode.ok []]
        else s.answer q ResultCode.unknownHandle []

/-- PAGE_CLOSE (R62). -/
def execPageClose (s : State) : Host.Outcome State Fault Refusal :=
  .next (s.command fun s => s.takeRequest (typeIs TypeCode.pageClose) State.carryPageClose)

/-- The hang time of a PAGE_OPEN: 0 selects the default, any other value is clamped to 5..120 (R60). -/
def State.hangTime (s : State) (n : Nat) : Nat := if n = 0 then s.defaultHang else clampNat 5 120 n

/-- The page record a PAGE_OPEN asks for (R60). -/
def State.openedPage (s : State) (p : List Byte) : Rec :=
  pageRec (Fin.ofNat 8 (octet p 0)) (s.hangTime (octet p 4)) (maskAt p 1) (s.formEffective (maskAt p 1) .live)

/-- PAGE_OPEN carried out (R60, R181). DEDUCED, log entry 21. -/
def State.carryPageOpen (s : State) (q : Request) : State :=
  let p := q.payload
  s.sized q 5 noHandleItem <|
    if octet p 0 > 7 then s.answer q ResultCode.badValue noHandleItem
    else if s.mp.device = .config then s.answer q ResultCode.notArmed noHandleItem
    else if s.mp.device = .evac then s.answer q ResultCode.state noHandleItem
    else if (s.openPage (Fin.ofNat 8 (octet p 0))).isSome = true then s.answer q ResultCode.busy noHandleItem
    else
      match s.freeHandle with
      | none => s.answer q ResultCode.noHandle noHandleItem
      | some h =>
        let x := s.openedPage p
        if (allZones.any fun z => s.available z x) = false then s.answer q ResultCode.noZone noHandleItem
        else
          let r : RecRef := ⟨h, s.seqCounter + 1⟩
          (s.allocate h x).push ((zonesOf x.effective).map (Task.claimAtStart · r) ++
            [.formPageStart r, .result q ResultCode.ok (put1 h.val)])

/-- PAGE_OPEN (R60). -/
def execPageOpen (s : State) : Host.Outcome State Fault Refusal :=
  .next (s.command fun s => s.takeRequest (typeIs TypeCode.pageOpen) State.carryPageOpen)

/-! ### Evacuation (R161, R165, R166) -/

/-- The mode and source of an EVAC_START, with its template id; none where a check of R161 fails. -/
def State.evacSource (s : State) (p : List Byte) : Option (Body × Nat) :=
  match octet p 0 with
  | 0 => if octet p 1 > 127 ∨ s.templateEmpty (octet p 1) = true then none else some (.evacTemplate, octet p 1)
  | 1 => if octet p 1 > 7 then none else some (.evacSource (Fin.ofNat 8 (octet p 1)), 0)
  | _ => none

/-- The device state becomes EVAC, and the state left the prior state (R161, step 1). -/
def State.enterEvac (s : State) : State :=
  let d := s.mp.device
  let s := s.setDevice .evac
  { s with mp := { s.mp with prior := some d } }

/-- EVAC_START carried out (R161, R165). The endings of step 2 are causes of the admission pass. The records step 2 ends
are those it finds at step 1: one that a start of a release choice seizes back to QUEUED meanwhile is ended too, from
the queue (DESIGN CHOICE, log entry 41). -/
def State.carryEvacStart (s : State) (q : Request) : State :=
  let p := q.payload
  s.sized q 5 [] <|
    match s.evacSource p with
    | none => s.answer q ResultCode.badValue []
    | some (body, template) =>
      if s.mp.device = .evac then
        s.push [.replaceEvac body template (maskAt p 2), .result q ResultCode.ok []]
      else
        let l := s.endings endsAtEvac .abortedEvac
        (s.enterEvac.noteEndings l).push (l ++
          [.buildEvac body template (maskAt p 2), .result q ResultCode.ok []])

/-- EVAC_START (R161). -/
def execEvacStart (s : State) : Host.Outcome State Fault Refusal :=
  .next (s.command fun s => s.takeRequest (typeIs TypeCode.evacStart) State.carryEvacStart)

/-- The device state becomes the prior state, which becomes absent (R166, step 1). -/
def State.leaveEvac (s : State) : State :=
  let s := s.setDevice (s.mp.prior.getD .config)
  { s with mp := { s.mp with prior := none } }

/-- A refused EVAC_END gives up the second of its two places (R180). -/
def State.refuseEvacEnd (s : State) (q : Request) (code : Nat) : State :=
  ({ s with mp := { s.mp with reserved := s.mp.reserved - 1 } }).answer q code []

/-- EVAC_END carried out (R166). -/
def State.carryEvacEnd (s : State) (q : Request) : State :=
  if q.payload.length ≠ 0 then s.refuseEvacEnd q ResultCode.badLength
  else if s.mp.device ≠ .evac then s.refuseEvacEnd q ResultCode.state
  else
    let s := s.leaveEvac.notePass
    s.push ((if s.mp.device = .config then s.endings endsAtConfig .abortedState else []) ++
      [.endRecord evacRef .complete, .result q ResultCode.ok [], .placeEvacDone])

/-- EVAC_END (R166). -/
def execEvacEnd (s : State) : Host.Outcome State Fault Refusal :=
  .next (s.command fun s => s.takeRequest (typeIs TypeCode.evacEnd) State.carryEvacEnd)

/-! ### FAULT_CLEAR, RESET and the unknown type (R181, R182, R192) -/

/-- FAULT_CLEAR carried out (R153, R154, R182). -/
def State.carryFaultClear (s : State) (q : Request) : State :=
  let m := maskAt q.payload 0
  s.sized q 3 [] <|
    s.push ((zonesOf m).map Task.clearZone ++ [.placeCleared m, .scanTurn, .result q ResultCode.ok []])

/-- FAULT_CLEAR (R182). -/
def execFaultClear (s : State) : Host.Outcome State Fault Refusal :=
  .next (s.command fun s => s.takeRequest (typeIs TypeCode.faultClear) State.carryFaultClear)

/-- RESET carried out: its RESULT is placed, and from then on no request is taken and no notice built (R192). -/
def State.carryReset (s : State) (q : Request) : State :=
  s.sized q 0 [] <|
    let s := s.placeResult q ResultCode.ok []
    { s with mp := { s.mp with resetting := true } }

/-- RESET (R192). -/
def execReset (s : State) : Host.Outcome State Fault Refusal :=
  .next (s.command fun s => s.takeRequest (typeIs TypeCode.reset) State.carryReset)

/-- BAD_TYPE_REQUEST (R181). -/
def execBadTypeRequest (s : State) : Host.Outcome State Fault Refusal :=
  .next (s.command fun s =>
    s.takeRequest (fun _ q => !typeIsRequest q.type.toNat) fun s q => s.answer q ResultCode.badType [])

end Sys2Proof.Machine
end

