-- ==== Sys2Proof/Machine/Events.lean ====
section
/-! DEFINITION. The events: resets and the reset pin, frames, the events keyed to the frame count, timers, the
phrase store port, element ends, and the building of notices. -/

namespace Sys2Proof.Machine

/-! ### Resets (R167, R179, R192) -/

/-- SOFT_RESET (R192): taken when the RESET's RESULT has left the Up port. -/
def execSoftReset (s : State) : Host.Outcome State Fault Refusal :=
  .next (s.command fun s => if s.softResetDue then s.softReset else s)

/-- RESET_PIN_ASSERT (R167): power-on values, and the port's pins at high impedance (R91), until the release. The
address latched before stays until the straps are latched again (R179). -/
def execResetPinAssert (s : State) : Host.Outcome State Fault Refusal := .next (s.powerOn true s.ti.address)

/-- RESET_PIN_RELEASE (R179): the address is latched, both directions are in SEARCH, and the local frame timer
starts. Nothing is released while the pin is not held. -/
def execResetPinRelease (straps : Byte) (s : State) : Host.Outcome State Fault Refusal :=
  .next (if s.pinHeld then s.powerOn false (latchedAddress straps) else s)

/-! ### Frames (R168, R169, R172) -/

/-- DOWNSTREAM_FRAME_ARRIVAL (R169). -/
def execDownstreamFrameArrival (octets : List Byte) (s : State) : Host.Outcome State Fault Refusal :=
  .next (s.command fun s => if octets.length = 22 then s.downArrival octets else s)

/-- LOCAL_FRAME_TIMER_EXPIRY (R168): a frame event with every source sample 0 and no message received (R170). DESIGN
CHOICE, log entry 28. -/
def execLocalFrameTimerExpiry (s : State) : Host.Outcome State Fault Refusal :=
  .next (s.command fun s =>
    if s.ti.timerRunning then s.push (frameTasks silentSlots none) else s)

/-- UPSTREAM_FRAME_ARRIVAL (R172). -/
def execUpstreamFrameArrival (octets : List Byte) (s : State) : Host.Outcome State Fault Refusal :=
  .next (s.command fun s => if octets.length = 54 then s.upArrival octets else s)

/-! ### Events keyed to the frame count (R39, R103, R145, R149) -/

/-- DUCK_STEP_EVENT (R39): the ducks take the step of the frame event just taken, if its count is a multiple of 32 and
nothing has come between (DEDUCED, log entry 5). While the pin is held nothing happens (R167). -/
def execDuckStepEvent (s : State) : Host.Outcome State Fault Refusal :=
  .next (if s.pinHeld then s else s.settleWork.carryOut State.takeDuck)

/-- LIMITER_STEP_EVENT (R145). -/
def execLimiterStepEvent (s : State) : Host.Outcome State Fault Refusal :=
  .next (s.command fun s =>
    if s.owed.limiter then
      ({ s with owed := { s.owed with limiter := false } }).push (allZones.map Task.limiterZone)
    else s)

/-- COMPENSATION_STEP_EVENT (R149). -/
def execCompensationStepEvent (s : State) : Host.Outcome State Fault Refusal :=
  .next (s.command fun s =>
    if s.owed.compensation then ({ s with owed := { s.owed with compensation := false } }).compensationStep else s)

/-- SECOND_EVENT (R103). -/
def execSecondEvent (stalenessFirst : Bool) (s : State) : Host.Outcome State Fault Refusal :=
  .next (s.command fun s =>
    if s.owed.second then ({ s with owed := { s.owed with second := false } }).secondEvent stalenessFirst else s)

/-! ### Timers (R61, R138, R141) -/

/-- The open page of the slot, when its hang timer has run out (R61). -/
def State.hungSlot (s : State) (slot : SlotId) : Option RecRef :=
  (s.openPage slot).bind fun r =>
    match s.recOf r with
    | some x => (match x.body with | .page _ _ timer _ => if timer = 0 then some r else none | _ => none)
    | none => none

/-- PAGE_HANG_EXPIRY (R61). -/
def execPageHangExpiry (slot : SlotId) (s : State) : Host.Outcome State Fault Refusal :=
  .next (s.command fun s => match s.hungSlot slot with | some r => s.push [.endRecord r .hang] | none => s)

/-- SCAN_ROUND_BEGIN (R138). -/
def execScanRoundBegin (s : State) : Host.Outcome State Fault Refusal :=
  .next (s.command fun s => if s.roundDue then s.beginRound else s)

/-- LINE_TEST_END (R141). -/
def execLineTestEnd (s : State) : Host.Outcome State Fault Refusal :=
  .next (s.command fun s => match s.testDue with | some t => s.endTest t | none => s)

/-! ### The phrase store and playout (R85, R94, R95) -/

/-- BURST_GRANT (R94). DEDUCED, log entry 27. -/
def execBurstGrant (s : State) : Host.Outcome State Fault Refusal := .next (s.command State.grant)

/-- BURST_COMPLETE (R95): the burst in flight completes with as many octets as it reads, and the port, IDLE again,
grants again at once if any channel requests (R94). -/
def execBurstComplete (octets : List Byte) (s : State) : Host.Outcome State Fault Refusal :=
  .next (s.command fun s =>
    match s.port.busy with
    | some b => if octets.length = b.octets then (s.completeBurst b octets).grant else s
    | none => s)

/-- ELEMENT_END (R85) of one channel. Ends of other channels' elements wait for their own commands. -/
def execElementEnd (channel : ChanId) (s : State) : Host.Outcome State Fault Refusal :=
  .next (s.command fun s => s.takeEnd channel)

/-! ### Notices (R187 to R191) -/

/-- MP may build a notice now: a free place, no request that can be taken, no RESET under way (R187, R192). Where one
frame event frees a place and completes a request, the request therefore goes first (DESIGN CHOICE, log entry 38). -/
def State.mayBuild (s : State) : Bool :=
  !s.mp.resetting && decide (1 ≤ s.freePlaces) && s.takeable.isNone

/-- The ANN_DONE of the oldest finished record is placed, and its handle freed (R44, R188). -/
def State.buildAnnDone (s : State) : State :=
  match s.mp.finished with
  | [] => s
  | h :: rest =>
    let s := { s with mp := { s.mp with finished := rest } }
    match s.recs[h] with
    | some x => (s.placeOut (noticeMessage s TypeCode.annDone (annDonePayload h x))).setRec h none
    | none => s

/-- ANN_DONE_BUILD (R188). -/
def execAnnDoneBuild (s : State) : Host.Outcome State Fault Refusal :=
  .next (s.command fun s => if s.mayBuild then s.buildAnnDone else s)

/-- A CHANGE notice of up to 8 items is placed (R190). -/
def State.buildChange (s : State) : State :=
  if s.mp.changes = [] then s
  else
    (({ s with mp := { s.mp with changes := s.mp.changes.drop 8 } }).placeOut
      (noticeMessage s TypeCode.change (changePayload (s.mp.changes.take 8))))

/-- CHANGE_BUILD (R190): after every ANN_DONE (R187). -/
def execChangeBuild (s : State) : Host.Outcome State Fault Refusal :=
  .next (s.command fun s => if s.mayBuild && s.mp.finished.isEmpty then s.buildChange else s)

/-- The lowest-numbered slot whose notice-pending flag is set (R191). -/
def State.flaggedSlot (s : State) : Option CallSlot :=
  (List.finRange 256).find? fun i => match s.calls[i] with | some c => c.noticePending | none => false

/-- The CALL notice of the lowest flagged slot is placed; its flag is cleared, and a record that a second event found
due for retirement and that is still due is freed (R102, R120, R191). DEDUCED, log entry 17. -/
def State.buildCall (s : State) : State :=
  match s.flaggedSlot with
  | none => s
  | some i =>
    match s.calls[i] with
    | none => s
    | some c =>
      (s.placeOut (noticeMessage s TypeCode.call (callPayload i c))).setCall i
        (if c.foundDue && c.due s.clock then none else some { c with noticePending := false })

/-- CALL_NOTICE_BUILD (R191): after every ANN_DONE and CHANGE notice (R187). -/
def execCallNoticeBuild (s : State) : Host.Outcome State Fault Refusal :=
  .next (s.command fun s => if s.mayBuild && s.mp.finished.isEmpty && s.mp.changes.isEmpty then s.buildCall else s)

end Sys2Proof.Machine
end

