-- ==== Sys2Proof/Machine/Dispatch.lean ====
section
/-! DEFINITION. One arm for each command. -/

namespace Sys2Proof.Machine

/- One arm for each row of spec/opcode_table.json. -/
def exec (i : Instr) (s : State) : Host.Outcome State Fault Refusal :=
  match i with
  | .paramWrite => Sys2Proof.Machine.execParamWrite s
  | .paramRead => Sys2Proof.Machine.execParamRead s
  | .zoneEnableWrite => Sys2Proof.Machine.execZoneEnableWrite s
  | .zoneDisableWrite => Sys2Proof.Machine.execZoneDisableWrite s
  | .limiterModeWrite => Sys2Proof.Machine.execLimiterModeWrite s
  | .compensationWrite => Sys2Proof.Machine.execCompensationWrite s
  | .duckDepthWrite => Sys2Proof.Machine.execDuckDepthWrite s
  | .lateThresholdWrite => Sys2Proof.Machine.execLateThresholdWrite s
  | .changeMaskWrite => Sys2Proof.Machine.execChangeMaskWrite s
  | .clipCounterClear => Sys2Proof.Machine.execClipCounterClear s
  | .underrunCounterClear => Sys2Proof.Machine.execUnderrunCounterClear s
  | .skippedCountClear => Sys2Proof.Machine.execSkippedCountClear s
  | .linkCounterClear => Sys2Proof.Machine.execLinkCounterClear s
  | .stateSet => Sys2Proof.Machine.execStateSet s
  | .timeSet => Sys2Proof.Machine.execTimeSet s
  | .callSet => Sys2Proof.Machine.execCallSet s
  | .callDelete => Sys2Proof.Machine.execCallDelete s
  | .delay => Sys2Proof.Machine.execDelay s
  | .platform => Sys2Proof.Machine.execPlatform s
  | .arrived => Sys2Proof.Machine.execArrived s
  | .departed => Sys2Proof.Machine.execDeparted s
  | .cancel => Sys2Proof.Machine.execCancel s
  | .reinstate => Sys2Proof.Machine.execReinstate s
  | .announce => Sys2Proof.Machine.execAnnounce s
  | .annCancel => Sys2Proof.Machine.execAnnCancel s
  | .pageOpen => Sys2Proof.Machine.execPageOpen s
  | .pageClose => Sys2Proof.Machine.execPageClose s
  | .evacStart => Sys2Proof.Machine.execEvacStart s
  | .evacEnd => Sys2Proof.Machine.execEvacEnd s
  | .faultClear => Sys2Proof.Machine.execFaultClear s
  | .reset => Sys2Proof.Machine.execReset s
  | .softReset => Sys2Proof.Machine.execSoftReset s
  | .resetPinAssert => Sys2Proof.Machine.execResetPinAssert s
  | .resetPinRelease straps => Sys2Proof.Machine.execResetPinRelease straps s
  | .downstreamFrameArrival octets => Sys2Proof.Machine.execDownstreamFrameArrival octets s
  | .localFrameTimerExpiry => Sys2Proof.Machine.execLocalFrameTimerExpiry s
  | .duckStepEvent => Sys2Proof.Machine.execDuckStepEvent s
  | .limiterStepEvent => Sys2Proof.Machine.execLimiterStepEvent s
  | .compensationStepEvent => Sys2Proof.Machine.execCompensationStepEvent s
  | .secondEvent stalenessFirst => Sys2Proof.Machine.execSecondEvent stalenessFirst s
  | .pageHangExpiry slot => Sys2Proof.Machine.execPageHangExpiry slot s
  | .upstreamFrameArrival octets => Sys2Proof.Machine.execUpstreamFrameArrival octets s
  | .scanRoundBegin => Sys2Proof.Machine.execScanRoundBegin s
  | .lineTestEnd => Sys2Proof.Machine.execLineTestEnd s
  | .burstGrant => Sys2Proof.Machine.execBurstGrant s
  | .burstComplete octets => Sys2Proof.Machine.execBurstComplete octets s
  | .elementEnd channel => Sys2Proof.Machine.execElementEnd channel s
  | .annDoneBuild => Sys2Proof.Machine.execAnnDoneBuild s
  | .changeBuild => Sys2Proof.Machine.execChangeBuild s
  | .callNoticeBuild => Sys2Proof.Machine.execCallNoticeBuild s
  | .badTypeRequest => Sys2Proof.Machine.execBadTypeRequest s
  | .unknownEventCode => Sys2Proof.Machine.execUnknownEventCode s

end Sys2Proof.Machine
end

