-- ==== Sys2Proof/Safety.lean ====
section
/-! DEFINITION. The terms in which claims about the part are stated: what a safe step is, when the part stands between
commands with nothing of its own left to do, what a request on offer and its answer are, and the invariants that every
step keeps. -/

namespace Sys2Proof.Machine

/-- A step is safe when it answers a next state: neither a fault nor a refusal. -/
def SafeStep (o : Host.Outcome State Fault Refusal) : Prop := ∃ t, o = .next t

/-! ### Between commands -/

/-- The part runs (its reset pin is not held, R167) and stands between commands: no inner work is left, no soft reset
is due, no duck step is owed, and no cause of the admission pass is noted. -/
def State.quiet (s : State) : Bool := !s.pinHeld && s.settled && !s.passDue

/-- No record is QUEUED, PLAYING, PAUSED, LIVE or an evacuation in force: every allocated handle holds a record in
DONE. -/
def State.resting (s : State) : Bool :=
  (List.finRange 64).all fun h => match s.recs[h] with | some x => decide (x.state = .done) | none => true

/-- Every record is in DONE, or is an announcement that waits in the queue with a usable zone in its set and no channel
to start on, none being IDLE and none seizable. -/
def State.onlyWaiting (s : State) : Bool :=
  (List.finRange 64).all fun h =>
    match s.recs[h] with
    | some x =>
      decide (x.state = .done) ||
        (decide (x.state = .queued) && x.isAnnouncement && decide (h ≠ evacHandle) && s.idleChan.isNone &&
          allZones.any fun z => hasZone x.effective z && s.usable z)
    | none => true

/-- Every record but the one under the handle is in DONE. -/
def State.restingBut (s : State) (h : Handle) : Bool :=
  (List.finRange 64).all fun j =>
    decide (j = h) || (match s.recs[j] with | some x => decide (x.state = .done) | none => true)

/-- No zone is owned, reserved or inside a release choice. -/
def State.zonesIdle (s : State) : Bool :=
  allZones.all fun z =>
    match s.zones[z].own with
    | .disabled => true
    | .free => true
    | .tripped => true
    | _ => false

/-- No channel's current element has run out with its end still to be taken (R85). -/
def State.noneEnded (s : State) : Bool := (List.finRange 6).all fun k => !(s.chans[k]).ended

/-- No event of the latest frame count is still owed, no timer has run out, and no element has ended. -/
def State.nothingDue (s : State) : Bool :=
  decide (s.owed = ⟨none, false, false, false⟩) && s.noneEnded && s.hungPage.isNone && s.testDue.isNone && !s.roundDue

/-! ### The CHANGE pending set -/

/-- Item `k` has passed from the value `old` to `new` in a step from `s` to `t` (R189): where its value changed and its
mask bit is set, it stands in the pending set with its new value, and, in a set that was in order, with no other; where
its value did not change, or its mask bit is clear, the set holds of it what it held before. -/
def State.itemJoins (s t : State) (k old new : Nat) : Prop :=
  if old ≠ new ∧ (readWord s.mp.params (0x2100 + k / 16)).getLsbD (k % 16) = true then
    (k, new) ∈ t.mp.changes ∧
      ((s.mp.changes.map Prod.fst).Pairwise (· < ·) → ∀ v, (k, v) ∈ t.mp.changes → v = new)
  else ∀ v, (k, v) ∈ t.mp.changes ↔ (k, v) ∈ s.mp.changes

/-- What the pending set holds of item `k` has not moved in a step from `s` to `t`. -/
def State.itemStays (s t : State) (k : Nat) : Prop := ∀ v, (k, v) ∈ t.mp.changes ↔ (k, v) ∈ s.mp.changes

/-! ### Requests -/

/-- The request is the one MP takes next (R180): it stands at the head of the request buffer, with its places free in
the outbound queue, and no RESET is under way (R192). -/
def State.offers (s : State) (q : Request) : Prop := s.takeable = some q

/-- The request is taken and its RESULT placed at the tail of the outbound queue; the reservation it held in between is
over (R180). -/
def State.answered (s : State) (q : Request) (code : Nat) (items : List Byte) : State :=
  { s with
    mp := { s.mp with
      requests := s.mp.requests.tail
      outbound := s.mp.outbound ++ [resultMessage s q code items] } }

/-- The payload of a PARAM_WRITE of one word. -/
def oneWord (a : Nat) (v : Word) : List Byte := put2 a ++ put1 1 ++ putWord v

/-- The request writes one word of Parameter Memory. -/
def writesOne (q : Request) (a : Nat) (v : Word) : Prop :=
  q.type.toNat = TypeCode.paramWrite ∧ a < 65536 ∧ q.payload = oneWord a v

/-! ### Endings -/

/-- The record `x` under handle `h` has ended with outcome `o` and become `y`, and the part has passed from `s` to `t`;
`u` is `s` with what the command answers outside the ending (R57, R58, R63). Its channel is IDLE, and no other has
moved; where records and zones stand is not said here. -/
def Ended (s u t : State) (h : Handle) (x y : Rec) (o : EndOutcome) : Prop :=
  y.seq = x.seq ∧ y.state = .done ∧ y.outcome = some o ∧ y.channel = none ∧
    y.covered = (if x.isAnnouncement = true then 0 else x.start) ∧ y.effective = x.effective ∧ y.degraded = x.degraded ∧
    y.callId = x.callId ∧ y.body = x.body ∧
    (∀ k, x.channel = some k → (t.chans[k]).state = .idle) ∧ (∀ k, x.channel ≠ some k → t.chans[k] = s.chans[k]) ∧
    t = { u with
      recs := t.recs, chans := t.chans, zones := t.zones, port := t.port
      mp := { u.mp with finished := s.mp.finished ++ [h], changes := t.mp.changes } }

/-! ### Trips -/

/-- What the trip `k` of zone `z` leaves in the zone, whose other fields are those of `x`: an enabled zone is TRIPPED,
its stack empty and its duck 0, and one that had an owner is released at this frame count with the blanking that
follows; one that is DISABLED stays so (R19, R40, R147, R152). -/
def State.trippedZone (s : State) (z : ZoneId) (x : Zone) (k : TripState) : Zone :=
  { x with
    trip := k, comp := 0, cTarget := 0, limR := 0, limActive := false, elapsed := 0, aboveSince := .none
    own := if s.usable z then .tripped else x.own
    stack := if s.usable z then [] else x.stack
    duck := if s.usable z then 0 else x.duck
    lastReleased := if x.own.owner?.isSome then some s.ti.frameCount else x.lastReleased
    blankUntil := if x.own.owner?.isSome then some ((s.ti.frameCount + 32000) % 2 ^ 48) else x.blankUntil }

/-- The record gains the fallback zone of the tripped zone `z`: the fallback is usable, and the record has not ended and
holds `z` and not yet the fallback (R21). -/
def State.gains (s : State) (z : ZoneId) (x : Rec) : Bool :=
  match s.fallback z with
  | some f => s.usable f && x.unfinished && hasZone x.effective z && !hasZone x.effective f
  | none => false

/-- The record under handle `h` after a trip of the enabled zone `z`: as the zone's owner it has lost it and counts it
as detached, and it has gained the zone's fallback, which it cannot cover (R19, R21). -/
def State.afterTrip (s : State) (z : ZoneId) (h : Handle) (x : Rec) : Rec :=
  let y :=
    if s.zones[z].own.owner? = some ⟨h, x.seq⟩ then
      { x with
        live := withoutZone x.live z, start := withoutZone x.start z
        detached := if x.current then withZone x.detached z &&& x.effective else x.detached }
    else x
  match s.fallback z with
  | some f => if s.usable z && s.gains z x then
      { y with effective := withZone y.effective f, barred := withZone y.barred f }
    else y
  | none => y

/-- The trip of zone `z` is one whose whole effect the two above give: the zone stands outside its release choice, its
owner, if it is PLAYING, keeps another live zone, and no page and no evacuation record gains its fallback. -/
def State.plainTrip (s : State) (z : ZoneId) : Prop :=
  (∀ b n, s.zones[z].own ≠ .choosing b n) ∧
    (∀ r x, s.zones[z].own.owner? = some r → s.recOf r = some x → x.state = .playing → withoutZone x.live z ≠ 0) ∧
    ∀ (h : Handle) x, s.recs[h] = some x → s.gains z x = true → x.isPage = false ∧ h ≠ evacHandle

/-! ### The message channel -/

/-- The valid octets of a frame's message channel (R173, R193). -/
def heard (m : Byte × List Byte) : List Byte := m.2.take (validCount m.1)

/-- Octets as a forward buffer holds them: the first of a frame that starts a message, and the last of one that ends it,
are marked (R173). -/
def marked (start fin : Bool) (v : List Byte) : List Item :=
  (List.range v.length).map fun i => ⟨v.getD i 0, start && decide (i = 0), fin && decide (i + 1 = v.length)⟩

/-- A forward buffer of 512 octets has room for a whole message of 247 (R174, R175). -/
def hasRoom (buf : List Item) : Bool := decide (buf.length + 247 ≤ 512)

/-- The message a downstream frame opens with destination octet `o`: taken when it is for the part or broadcast, and
forwarded when it is not for the part alone and the buffer has room (R174). -/
def openedDown (addr : Byte) (buf : List Item) (o : Byte) : Reception :=
  ⟨true, [], decide (o = addr) || decide (o = 0xFF), decide (o ≠ addr) && hasRoom buf⟩

/-- The message an upstream frame opens: never taken, forwarded when the buffer has room (R175). -/
def openedUp (buf : List Item) : Reception := ⟨true, [], false, hasRoom buf⟩

/-- The message in reception after a frame that brought the octets to it: closed where the frame ended it (R173). -/
def afterFrame (rx : Reception) (fin : Bool) (v : List Byte) : Reception :=
  if rx.isOpen = true then (if fin = true then .init else { rx with octets := rx.octets ++ v }) else rx

/-- What a frame adds to the forward buffer (R174, R175). -/
def forwardedBy (rx : Reception) (start fin : Bool) (v : List Byte) : List Item :=
  if rx.isOpen = true ∧ rx.forwarded = true then marked start fin v else []

/-- What R178 says of one upstream frame. `waiting` are the octets that arrived before the frame, `now` those that stand
in the buffer when it is sent; it carries `c`, and the merger passes from `s` to `t`. A forwarded message being sent is
over where its last octet has left or another message's first octet stands next. -/
def MergerSends (s t : State) (waiting now : List Item) (c : Carried) : Prop :=
  let part (start : Bool) (m : List Byte) : Prop :=
    c = ⟨start, decide (m.length ≤ 4), m.take 4⟩ ∧
      t.ti.sending = (if m.length ≤ 4 then .none else .part (m.drop 4)) ∧ t.ti.lastPart = true ∧ t.ti.upBuf = now
  let forward (before : Sending) : Prop :=
    c = carriedItems (oneMessage 4 waiting) ∧ t.ti.upBuf = now.drop (oneMessage 4 waiting).length ∧
      t.ti.lastPart = false ∧ t.mp.outbound = s.mp.outbound ∧
      t.ti.sending = (if c.fin = true then .none else if waiting = [] then before else .forwarded)
  let done : Prop :=
    match now with
    | x :: _ => x.first = true
    | [] => ¬(t.ti.upRx.isOpen = true ∧ t.ti.upRx.forwarded = true)
  (∀ left, s.ti.sending = .part left → part false left ∧ t.mp.outbound = s.mp.outbound) ∧
  (s.ti.sending = .begun → forward .begun) ∧
  (s.ti.sending = .forwarded → ¬done → forward .forwarded) ∧
  (s.ti.sending = .none ∨ (s.ti.sending = .forwarded ∧ done) →
    (now ≠ [] → s.ti.lastPart = true ∨ s.mp.outbound = [] → forward .begun) ∧
    (∀ m rest, s.mp.outbound = m :: rest → now = [] ∨ s.ti.lastPart = false →
      part true m ∧ t.mp.outbound = rest) ∧
    (now = [] → s.mp.outbound = [] →
      c = .idle ∧ t.ti.sending = .none ∧ t.ti.lastPart = s.ti.lastPart ∧ t.ti.upBuf = now ∧ t.mp.outbound = []))

/-! ### Invariants -/

/-- Every stored word of Parameter Memory is one that a write may leave there: at a writable address that is no
counter, of codes that exist, and within its range (R183, R185). -/
def State.paramsLegal (s : State) : Bool :=
  s.mp.params.all fun p =>
    writable p.1 && !isCounterWord p.1 && codesExist p.1 p.2 && decide (storedWord p.1 p.2 = p.2)

/-- A preemption stack holds at most three references, no two of one handle (R11, R12). -/
def Zone.stackSound (x : Zone) : Bool :=
  decide (x.stack.length ≤ 3) && decide ((x.stack.map RecRef.handle).Nodup)

/-- Every zone's preemption stack is sound. -/
def State.stacksSound (s : State) : Bool := allZones.all fun z => (s.zones[z]).stackSound

/-- Every record's sequence number is one the sequence counter has given, and the counter stays within its 32 bits
(R45). -/
def State.sequencesSound (s : State) : Bool :=
  decide (s.seqCounter ≤ Config.lastSequence) &&
    (List.finRange 64).all fun h =>
      match s.recs[h] with
      | some x => decide (x.seq ≤ s.seqCounter)
      | none => true

/-- A forward buffer holds 512 octets at most, and the message in reception 247; a message being forwarded still has
room for the rest of its 247 octets, as it was given when it opened (R173, R174, R175). -/
def fitsBuffer (rx : Reception) (buf : List Item) : Bool :=
  decide (buf.length ≤ 512) && decide (rx.octets.length ≤ 247) &&
    (!(rx.isOpen && rx.forwarded) || decide (buf.length + 247 ≤ 512 + rx.octets.length))

/-- The ranges the spec gives the trunk's counts, its counters, its address, the request buffer and the two forward
buffers (R168, R169, R172 to R177, R179). -/
def State.trunkSound (s : State) : Bool :=
  decide (s.ti.frameCount < Config.frameCountModulus) && decide (s.ti.address ≠ broadcast) &&
    decide (s.ti.downGood < 4) && decide (s.ti.downBad < 3) && decide (s.ti.upGood < 4) && decide (s.ti.upBad < 3) &&
    decide (s.mp.requests.length ≤ Config.requestLimit) &&
    fitsBuffer s.ti.downRx s.ti.downBuf && fitsBuffer s.ti.upRx s.ti.upBuf &&
    decide (s.mp.requestErrors ≤ 65535) && decide (s.mp.requestOverflows ≤ 65535) &&
    decide (s.mp.downDiscards ≤ 65535) && decide (s.mp.upDiscards ≤ 65535) &&
    decide (s.mp.downLosses ≤ 65535) && decide (s.mp.upLosses ≤ 65535)

/-- Item numbers strictly rising. -/
def rising : List (Nat × Nat) → Bool
  | (j, _) :: (k, w) :: rest => decide (j < k) && rising ((k, w) :: rest)
  | _ => true

/-- The CHANGE pending set holds each item once, in ascending order, and only items whose mask bit is set (R189). -/
def State.changesSound (s : State) : Bool :=
  rising s.mp.changes && s.mp.changes.all fun p => s.masked p.1

end Sys2Proof.Machine
end

