-- ==== Sys2Proof/Certificates/Slice0/Obligations.lean ====
section
/-! DEFINITION. What the provers are to prove of the RA624: the queue and the whole machine, the invariants that every
step keeps, and then the commands, family by family, each with what it leaves unchanged. -/

section

open Sys2Proof Sys2Proof.Machine

/-! ### The queue and the whole machine -/

/-- The command at the front of the queue is carried out, on the state with the queue's rest. -/
def Obligations.StepRunsFrontCommand : Prop :=
  ∀ (c : Instr) (rest : List Instr) (s : State), s.pending = c :: rest → step s = exec c { s with pending := rest }

/-- With no command waiting the block idles. This is the model's choice (log entry 4). -/
def Obligations.EmptyQueueIdles : Prop := ∀ s : State, s.pending = [] → step s = .next s

/-- Every command ends in a next state, and leaves the queue of waiting commands as it found it. -/
def Obligations.CommandsLeaveTheQueue : Prop :=
  ∀ (c : Instr) (s : State), ∃ t, exec c s = .next t ∧ t.pending = s.pending

/-- The state after reset meets every invariant and has nothing left to do. -/
def Obligations.ResetStateMeetsInvariants : Prop :=
  State.reset.mp.params.wf = true ∧ State.reset.paramsLegal = true ∧ State.reset.stacksSound = true ∧
    State.reset.sequencesSound = true ∧ State.reset.trunkSound = true ∧ State.reset.changesSound = true ∧
    State.reset.quiet = true ∧ State.reset.resting = true

/-- Every step keeps Parameter Memory in its canonical form. -/
def Obligations.ParamsStayCanonical : Prop :=
  ∀ s t : State, s.mp.params.wf = true → step s = .next t → t.mp.params.wf = true

/-- Every step keeps every stored word of Parameter Memory one that a write may leave there (R183, R185). -/
def Obligations.ParamsStayLegal : Prop :=
  ∀ s t : State, s.paramsLegal = true → step s = .next t → t.paramsLegal = true

/-- Every step keeps every preemption stack at three references at most, no handle twice (R11); and every step keeps
every record's sequence number at most the sequence counter, and the counter within its 32 bits (R45). -/
def Obligations.StacksAndSequencesStaySound : Prop :=
  (∀ s t : State, s.stacksSound = true → step s = .next t → t.stacksSound = true) ∧
  (∀ s t : State, s.sequencesSound = true → step s = .next t → t.sequencesSound = true)

/-- Every step keeps the trunk's counts, counters and address in the ranges the spec gives them, the request buffer at
four requests at most, and each forward buffer at 512 octets at most, with the room that a message being forwarded was
given when it opened. -/
def Obligations.TrunkStaysSound : Prop :=
  ∀ s t : State, s.trunkSound = true → step s = .next t → t.trunkSound = true

/-- Every step keeps the CHANGE pending set ordered, each item once, and every item of it masked (R189). -/
def Obligations.PendingSetStaysMasked : Prop :=
  ∀ s t : State, s.changesSound = true → step s = .next t → t.changesSound = true

/-- While no RESET is under way, only STATE_SET, EVAC_START, EVAC_END and the reset pin move the device state or the
prior state (R156). -/
def Obligations.DeviceStateMovesByItsCommands : Prop :=
  ∀ (c : Instr) (s t : State), s.mp.resetting = false → exec c s = .next t →
    c ≠ .stateSet → c ≠ .evacStart → c ≠ .evacEnd → c ≠ .resetPinAssert → (∀ straps, c ≠ .resetPinRelease straps) →
    t.mp.device = s.mp.device ∧ t.mp.prior = s.mp.prior

/-- While the reset pin is held no frame is taken or sent and nothing else happens (R167). That a command given then
changes nothing is the model's choice (log entry 4). -/
def Obligations.HeldPinStopsEverything : Prop :=
  ∀ (c : Instr) (s : State), s.pinHeld = true → c ≠ .resetPinAssert → (∀ straps, c ≠ .resetPinRelease straps) →
    exec c s = .next s

/-! ### Gain arithmetic -/

/-- L(-120) is 0; for each code g of -119..+12, L(g) is 16384 * 10^(g/40) rounded to the nearest integer, an exact half
upwards (the inequalities are those of 2 L - 1 <= 32768 * 10^(g/40) < 2 L + 1 raised to the power 40); no result
exceeds 32690. Scaling rounds to the nearest integer with exact halves upwards, and passes a single signal at code 0
unchanged. -/
def Obligations.GainTableAndScalingRound : Prop :=
  linear (-120) = 0 ∧ linear 0 = 16384 ∧ linear 12 = 32690 ∧ (∀ g : Int, linear g ≤ 32690) ∧
    (∀ g ∈ List.range 13, (2 * linear g - 1) ^ 40 ≤ 32768 ^ 40 * 10 ^ g ∧
      32768 ^ 40 * 10 ^ g < (2 * linear g + 1) ^ 40) ∧
    (∀ g ∈ List.range 120, 1 ≤ g → (2 * linear (-(g : Int)) - 1) ^ 40 * 10 ^ g ≤ 32768 ^ 40 ∧
      32768 ^ 40 < (2 * linear (-(g : Int)) + 1) ^ 40 * 10 ^ g) ∧
    (∀ acc : Int, 16384 * scaled acc - acc ≤ 8192 ∧ -8192 < 16384 * scaled acc - acc) ∧
    (∀ w : Word, saturate (scaled (w.toInt * (linear 0 : Int))) = w ∧ saturates (scaled (w.toInt * (linear 0 : Int))) = false)

/-! ### Parameter Memory -/

/-- PARAM_READ answers OK with the words as they stand when it is carried out, or BAD_ADDRESS where one of them is not
readable (R184); nothing else changes. -/
def Obligations.ParamReadReturnsWords : Prop :=
  ∀ (s : State) (q : Request), s.quiet = true → s.offers q → q.type.toNat = TypeCode.paramRead →
    q.payload.length = 3 → countOk q.payload = true →
    exec .paramRead s = .next
      (if (List.range (paramCount q.payload)).all (fun i => readable (paramStart q.payload + i)) then
        s.answered q ResultCode.ok
          (((List.range (paramCount q.payload)).map fun i =>
            (s.taken q).readParam (paramStart q.payload + i)).flatMap putWord)
      else s.answered q ResultCode.badAddress [])

/-- A write of one word that acts at its readers alone stores the word, clamped into its range (R185, R186):
PARAM_WRITE for every such word but a duck depth, DUCK_DEPTH_WRITE for a zone's D (R40). It reads back, and nothing
else changes. That the argument bits of a template's END word, and the spare argument bits of its other element words,
are stored as 0 is the model's reading (log entry 15). A word that is not writable is refused with BAD_ADDRESS, and
then a code that does not exist with BAD_VALUE. -/
def Obligations.PlainWriteStoresWord : Prop :=
  ∀ (s : State) (q : Request) (a : Nat) (v : Word), s.quiet = true → s.offers q → writesOne q a v →
    s.mp.params.wf = true →
    (writable a = false → exec .paramWrite s = .next (s.answered q ResultCode.badAddress [])) ∧
    (writable a = true → codesExist a v = false →
      exec .paramWrite s = .next (s.answered q ResultCode.badValue [])) ∧
    (writable a = true → codesExist a v = true → isCounterWord a = false → a ≠ 3 → a < 0x2100 →
      (isZoneWord a = true → a % 16 ≠ 0 ∧ a % 16 ≠ 10 ∧ a % 16 ≠ 11 ∧ a % 16 ≠ 12) →
      exec (if isZoneWord a = true ∧ a % 16 = 4 then .duckDepthWrite else .paramWrite) s = .next
          { s.answered q ResultCode.ok [] with
            mp := { (s.answered q ResultCode.ok []).mp with params := writeWord s.mp.params a (storedWord a v) } } ∧
        readWord (writeWord s.mp.params a (storedWord a v)) a = storedWord a v ∧
        ∀ b, b ≠ a → readWord (writeWord s.mp.params a (storedWord a v)) b = readWord s.mp.params b)

/-- A write that turns a zone's enable field on moves the zone from DISABLED to FREE, or to TRIPPED while a trip is
latched (R5), and puts its configured limiter mode and timeout in force, a change of mode ending regulation (R143). Its
ownership item joins the pending set where its mask bit is set, its compensation item where its status changed too, and
no other item (R189). That the over-count of a zone latched OVERLOAD goes with the mode is the model's choice (log
entry 49). -/
def Obligations.ZoneEnableWriteFreesZone : Prop :=
  ∀ (s : State) (q : Request) (z : ZoneId) (v : Word), s.quiet = true → s.offers q →
    writesOne q (zoneWordAddr z.val 0) v → codesExist (zoneWordAddr z.val 0) v = true → s.mp.params.wf = true →
    s.enabled z = false → v.getLsbD 0 = true → s.zones[z].own = .disabled → s.underTest z = false →
    (∀ x, s.evacRec = some x → hasZone x.effective z = false) →
    ∃ t, exec .zoneEnableWrite s = .next t ∧
      t.zones[z] =
        { (if s.zones[z].appliedMode = limiterModeOf v then s.zones[z]
            else { s.zones[z] with limActive := false, limR := 0, elapsed := 0, aboveSince := .none, overCount := 0 }) with
          own := if s.zones[z].trip = .none then .free else .tripped
          appliedMode := limiterModeOf v
          appliedTimeout := limiterTimeoutOf v
          cTarget := if v.getLsbD 3 then s.zones[z].cTarget else 0 } ∧
      s.itemJoins t (4 * z.val + 3) 0 (if s.zones[z].trip = .none then 1 else 4) ∧
      s.itemJoins t (4 * z.val + 2) s.zones[z].compStatus t.zones[z].compStatus ∧
      (∀ k, k ≠ 4 * z.val + 2 → k ≠ 4 * z.val + 3 → s.itemStays t k) ∧
      t = { s.answered q ResultCode.ok [] with
        zones := s.zones.set z.val t.zones[z] z.isLt
        mp := { (s.answered q ResultCode.ok []).mp with
          params := writeWord s.mp.params (zoneWordAddr z.val 0) (storedWord (zoneWordAddr z.val 0) v)
          changes := t.mp.changes } }

/-- A write that turns a zone's enable field off moves the zone to DISABLED: its stack, pending claim, reservation and
duck go, its owner is detached without a push (R6, R40), and its configured limiter mode and timeout are put in force,
a change of mode ending regulation (R143). That the over-count of a zone latched OVERLOAD goes with the mode is the
model's choice (log entry 49). The owner, if there is one, keeps another live zone or is a page or an evacuation
without a channel, so that it does not PAUSE; its pause is not covered. -/
def Obligations.ZoneDisableWriteVacatesZone : Prop :=
  ∀ (s : State) (q : Request) (z : ZoneId) (v : Word), s.quiet = true → s.offers q →
    writesOne q (zoneWordAddr z.val 0) v → codesExist (zoneWordAddr z.val 0) v = true → s.mp.params.wf = true →
    s.enabled z = true → v.getLsbD 0 = false → (∀ b n, s.zones[z].own ≠ .choosing b n) → s.underTest z = false →
    (∀ r x, s.zones[z].own.owner? = some r → s.recOf r = some x → x.state = .playing → withoutZone x.live z ≠ 0) →
    ∃ t, exec .zoneDisableWrite s = .next t ∧
      t.zones[z] =
        { (if s.zones[z].appliedMode = limiterModeOf v then s.zones[z]
            else { s.zones[z] with limActive := false, limR := 0, elapsed := 0, aboveSince := .none, overCount := 0 }) with
          own := .disabled
          stack := []
          duck := 0
          appliedMode := limiterModeOf v
          appliedTimeout := limiterTimeoutOf v
          cTarget := if v.getLsbD 3 then s.zones[z].cTarget else 0
          lastReleased := if s.zones[z].own.owner?.isSome then some s.ti.frameCount else s.zones[z].lastReleased
          blankUntil := if s.zones[z].own.owner?.isSome then some ((s.ti.frameCount + 32000) % 2 ^ 48)
            else s.zones[z].blankUntil } ∧
      (∀ r x, s.zones[z].own.owner? = some r → s.recOf r = some x →
        t.recs = s.recs.set r.handle.val (some
          { x with
            live := withoutZone x.live z
            start := withoutZone x.start z
            detached := if x.current then withZone x.detached z &&& x.effective else x.detached }) r.handle.isLt) ∧
      ((∀ r, s.zones[z].own.owner? = some r → s.recOf r = none) → t.recs = s.recs) ∧
      t = { s.answered q ResultCode.ok [] with
        zones := s.zones.set z.val t.zones[z] z.isLt
        recs := t.recs
        mp := { (s.answered q ResultCode.ok []).mp with
          params := writeWord s.mp.params (zoneWordAddr z.val 0) (storedWord (zoneWordAddr z.val 0) v)
          changes := t.mp.changes } }

/-- A write of a zone's limiter mode and timeout is staged while the zone is enabled and stays so: the applied values do
not move. In a zone that is disabled and stays so it is applied at once, and a change of the applied mode ends
regulation and clears the over-count, the trip override apart (R143). The word also holds compensation enable: off puts
the target at 0 (R148). That the over-count of a zone latched OVERLOAD goes with the mode is the model's choice (log
entry 49), and that either row may take such a write its choice too (log entry 18). -/
def Obligations.LimiterModeWriteStages : Prop :=
  ∀ (s : State) (q : Request) (z : ZoneId) (v : Word), s.quiet = true → s.offers q →
    writesOne q (zoneWordAddr z.val 0) v → codesExist (zoneWordAddr z.val 0) v = true → s.mp.params.wf = true →
    v.getLsbD 0 = s.enabled z → s.underTest z = false →
    ∃ t, exec .limiterModeWrite s = .next t ∧ exec .compensationWrite s = .next t ∧
      t.zones[z] =
        (if s.enabled z = true then { s.zones[z] with cTarget := if v.getLsbD 3 then s.zones[z].cTarget else 0 }
        else
          { (if s.zones[z].appliedMode = limiterModeOf v then s.zones[z]
              else { s.zones[z] with
                limActive := false, limR := 0, elapsed := 0, aboveSince := .none, overCount := 0 }) with
            appliedMode := limiterModeOf v
            appliedTimeout := limiterTimeoutOf v
            cTarget := if v.getLsbD 3 then s.zones[z].cTarget else 0 }) ∧
      t = { s.answered q ResultCode.ok [] with
        zones := s.zones.set z.val t.zones[z] z.isLt
        mp := { (s.answered q ResultCode.ok []).mp with
          params := writeWord s.mp.params (zoneWordAddr z.val 0) (storedWord (zoneWordAddr z.val 0) v)
          changes := t.mp.changes } }

/-- A write of a zone's Aref, slope or Cmax starts blanking, 32,000 frame events counted from the frame event that
follows (R147), and keeps c and c_t within Cmax at the write (R149). -/
def Obligations.CompensationWriteBlanks : Prop :=
  ∀ (s : State) (q : Request) (z : ZoneId) (o : Nat) (v : Word), s.quiet = true → s.offers q →
    (o = 10 ∨ o = 11 ∨ o = 12) → writesOne q (zoneWordAddr z.val o) v → s.mp.params.wf = true →
    ∃ t, exec .compensationWrite s = .next t ∧
      t.zones[z] = { s.zones[z] with
        comp := min s.zones[z].comp (if o = 12 then min v.toNat 24 else s.compMax z)
        cTarget := min s.zones[z].cTarget (if o = 12 then min v.toNat 24 else s.compMax z)
        blankUntil := some ((s.ti.frameCount + 32001) % 2 ^ 48) } ∧
      t = { s.answered q ResultCode.ok [] with
        zones := s.zones.set z.val t.zones[z] z.isLt
        mp := { (s.answered q ResultCode.ok []).mp with
          params := writeWord s.mp.params (zoneWordAddr z.val o) (storedWord (zoneWordAddr z.val o) v)
          changes := t.mp.changes } }

/-- A write of the late threshold recomputes L for every call; a change of L sets the call's notice-pending flag
(R101). -/
def Obligations.LateThresholdWriteRecomputes : Prop :=
  ∀ (s : State) (q : Request) (v : Word), s.quiet = true → s.offers q → writesOne q 3 v → s.mp.params.wf = true →
    ∃ t, exec .lateThresholdWrite s = .next t ∧
      (∀ i : CallSlot, t.calls[i] = (s.calls[i]).map fun c =>
        { c with
          late := match c.delay with | some d => decide (min v.toNat 60 ≤ d) | none => false
          noticePending := c.noticePending ||
            ((match c.delay with | some d => decide (min v.toNat 60 ≤ d) | none => false) != c.late) }) ∧
      t = { s.answered q ResultCode.ok [] with
        calls := t.calls
        mp := { (s.answered q ResultCode.ok []).mp with params := writeWord s.mp.params 3 (storedWord 3 v) } }

/-- A write of a change mask word removes from the pending set each item of that word whose bit is clear, and adds
nothing (R189). -/
def Obligations.ChangeMaskWriteDropsItems : Prop :=
  ∀ (s : State) (q : Request) (k : Nat) (v : Word), s.quiet = true → s.offers q → k ≤ 6 → writesOne q (0x2100 + k) v →
    s.mp.params.wf = true → s.changesSound = true →
    exec .changeMaskWrite s = .next
      { s.answered q ResultCode.ok [] with
        mp := { (s.answered q ResultCode.ok []).mp with
          params := writeWord s.mp.params (0x2100 + k) (storedWord (0x2100 + k) v)
          changes := s.mp.changes.filter fun p =>
            !decide (p.1 / 16 = k) || (storedWord (0x2100 + k) v).getLsbD (p.1 % 16) } }

/-- A write of 0 to a counter word clears that counter, and a write of any other value leaves it unchanged (R37, R78,
R97, R176); nothing else changes. -/
def Obligations.CounterWritesClear : Prop :=
  ∀ (s : State) (q : Request) (v : Word), s.quiet = true → s.offers q →
    (∀ z : ZoneId, writesOne q (clipAddr z.val) v →
      exec .clipCounterClear s = .next { s.answered q ResultCode.ok [] with
        zones := s.zones.set z.val { s.zones[z] with clip := if v = 0 then 0 else s.zones[z].clip } z.isLt }) ∧
    (∀ k : ChanId, writesOne q (underrunAddr k.val) v →
      exec .underrunCounterClear s = .next { s.answered q ResultCode.ok [] with
        chans := s.chans.set k.val { s.chans[k] with underrun := if v = 0 then 0 else s.chans[k].underrun } k.isLt }) ∧
    (writesOne q skippedAddr v →
      exec .skippedCountClear s = .next { s.answered q ResultCode.ok [] with
        skipped := if v = 0 then 0 else s.skipped }) ∧
    (∀ i, i < 6 → writesOne q (linkAddr + i) v →
      exec .linkCounterClear s = .next { s.answered q ResultCode.ok [] with
        mp := { (s.answered q ResultCode.ok []).mp with
          requestErrors := if i = 0 ∧ v = 0 then 0 else s.mp.requestErrors
          requestOverflows := if i = 1 ∧ v = 0 then 0 else s.mp.requestOverflows
          downDiscards := if i = 2 ∧ v = 0 then 0 else s.mp.downDiscards
          upDiscards := if i = 3 ∧ v = 0 then 0 else s.mp.upDiscards
          downLosses := if i = 4 ∧ v = 0 then 0 else s.mp.downLosses
          upLosses := if i = 5 ∧ v = 0 then 0 else s.mp.upLosses } })

/-! ### Device state and clock -/

/-- STATE_SET: a target that is no state is refused with BAD_VALUE; in EVAC, and from CONFIG to QUIET, with STATE; a
target equal to the device state is answered OK and does nothing; any other target, on a part with no record in force,
becomes the device state, and the RESULT is OK (R157). The device item, if its mask bit is set, joins the pending set
with the new state, and no other item does (R189). -/
def Obligations.StateSetMovesDevice : Prop :=
  ∀ (s : State) (q : Request), s.quiet = true → s.offers q → q.type.toNat = TypeCode.stateSet → q.payload.length = 1 →
    (3 ≤ octet q.payload 0 → exec .stateSet s = .next (s.answered q ResultCode.badValue [])) ∧
    (octet q.payload 0 < 3 → s.mp.device = .evac → exec .stateSet s = .next (s.answered q ResultCode.state [])) ∧
    (octet q.payload 0 = 2 → s.mp.device = .config → exec .stateSet s = .next (s.answered q ResultCode.state [])) ∧
    (∀ d, targetOf (octet q.payload 0) = some d → s.mp.device ≠ .evac → ¬(d = .quiet ∧ s.mp.device = .config) →
      d = s.mp.device → exec .stateSet s = .next (s.answered q ResultCode.ok [])) ∧
    (∀ d, targetOf (octet q.payload 0) = some d → s.mp.device ≠ .evac → ¬(d = .quiet ∧ s.mp.device = .config) →
      d ≠ s.mp.device → s.resting = true →
      ∃ t, exec .stateSet s = .next t ∧ t.mp.device = d ∧
        s.itemJoins t 96 (match s.mp.device with | .config => 0 | .run => 1 | .quiet => 2 | .evac => 3)
          (octet q.payload 0) ∧
        (∀ k, k ≠ 96 → s.itemStays t k) ∧
        t = { s.answered q ResultCode.ok [] with
          mp := { (s.answered q ResultCode.ok []).mp with device := d, changes := t.mp.changes } })

/-- TIME_SET: a second of day of 86400 or more is refused with BAD_VALUE and changes nothing; otherwise the clock takes
the day and second and becomes VALID, and nothing else moves, the frame count included (R104), but the pending set: the
clock item joins it where the clock was INVALID and the item's mask bit is set (R189). -/
def Obligations.TimeSetSetsClock : Prop :=
  ∀ (s : State) (q : Request), s.quiet = true → s.offers q → q.type.toNat = TypeCode.timeSet → q.payload.length = 5 →
    (86400 ≤ field3 q.payload 2 → exec .timeSet s = .next (s.answered q ResultCode.badValue [])) ∧
    (field3 q.payload 2 < 86400 → ∃ t, exec .timeSet s = .next t ∧
      t.clock = ⟨field2 q.payload 0, field3 q.payload 2, true⟩ ∧
      s.itemJoins t 99 (if s.clock.valid = true then 1 else 0) 1 ∧ (∀ k, k ≠ 99 → s.itemStays t k) ∧
      t = { s.answered q ResultCode.ok [] with
        clock := t.clock
        mp := { (s.answered q ResultCode.ok []).mp with changes := t.mp.changes } })

/-! ### Calls and running events -/

/-- CALL_SET: a request whose fields fail a check of R115 is refused with BAD_VALUE; an unknown call id with no slot
free with TABLE_FULL; an unknown id otherwise creates a record in the lowest-numbered free slot, with the fields of
R116; a known id, while no TIMETABLE announcement of the call is in force, rewrites the record in its slot (R117). The
record's mark of a found retirement is clear (log entry 17). -/
def Obligations.CallSetCreatesOrReplaces : Prop :=
  ∀ (s : State) (q : Request), s.quiet = true → s.offers q → q.type.toNat = TypeCode.callSet → q.payload.length = 18 →
    (callFieldsOk q.payload = false → exec .callSet s = .next (s.answered q ResultCode.badValue [])) ∧
    (callFieldsOk q.payload = true → (∀ (i : CallSlot) c, s.calls[i] = some c → c.id ≠ field2 q.payload 0) →
      (∀ i : CallSlot, (s.calls[i]).isSome = true) →
      exec .callSet s = .next (s.answered q ResultCode.tableFull [])) ∧
    (∀ i : CallSlot, callFieldsOk q.payload = true →
      (((∀ (j : CallSlot) c, s.calls[j] = some c → c.id ≠ field2 q.payload 0) ∧ s.calls[i] = none ∧
          ∀ j : CallSlot, j < i → (s.calls[j]).isSome = true) ∨
        (s.findCall (field2 q.payload 0) = some i ∧
          ∀ (h : Handle) x, s.recs[h] = some x → timetableOf (field2 q.payload 0) x = true → x.unfinished = false)) →
      ∃ c, exec .callSet s = .next { s.answered q ResultCode.ok [] with calls := s.calls.set i.val (some c) i.isLt } ∧
        c.id = field2 q.payload 0 ∧ c.kind = (if octet q.payload 2 = 0 then .arrival else .departure) ∧
        c.platform = octet q.payload 3 ∧ c.prevPlatform = none ∧
        c.destination = (if field2 q.payload 4 = 0xFFFF then none else some (field2 q.payload 4)) ∧
        c.origin = (if field2 q.payload 6 = 0xFFFF then none else some (field2 q.payload 6)) ∧
        c.operator = (if field2 q.payload 8 = 0xFFFF then none else some (field2 q.payload 8)) ∧
        c.carriages = min (octet q.payload 10) 20 ∧ c.day = field2 q.payload 11 ∧ c.minute = field2 q.payload 13 ∧
        c.delay = (if field2 q.payload 15 = 0xFFFF then none else some (min (field2 q.payload 15) 720)) ∧
        c.plan = octet q.payload 17 ∧
        c.late = (match c.delay with | some d => decide (s.lateThreshold ≤ d) | none => false) ∧
        c.cancelled = false ∧ c.changed = false ∧ c.arrived = false ∧ c.departed = false ∧ c.state = .planned ∧
        c.retire = none ∧ (∀ k : Fin 6, c.trigs[k] = ⟨.pending, none⟩) ∧ c.noticePending = true ∧ c.foundDue = false)

/-- CALL_DELETE: an unknown call id is refused with UNKNOWN_CALL; a known one, while no announcement of the call is in
force, frees its slot with its notice-pending flag and builds no notice (R118). -/
def Obligations.CallDeleteFreesSlot : Prop :=
  ∀ (s : State) (q : Request), s.quiet = true → s.offers q → q.type.toNat = TypeCode.callDelete →
    q.payload.length = 2 →
    ((∀ (i : CallSlot) c, s.calls[i] = some c → c.id ≠ field2 q.payload 0) →
      exec .callDelete s = .next (s.answered q ResultCode.unknownCall [])) ∧
    (∀ i, s.findCall (field2 q.payload 0) = some i →
      (∀ (h : Handle) x, s.recs[h] = some x → announcementOf (field2 q.payload 0) x = true → x.unfinished = false) →
      exec .callDelete s = .next { s.answered q ResultCode.ok [] with calls := s.calls.set i.val none i.isLt })

/-- DELAY sets the call's delay, clamped to 720 or UNKNOWN, and recomputes L, whose change sets the notice-pending flag;
it changes no trigger and no record (R125, R101). -/
def Obligations.DelayMovesLateFlag : Prop :=
  ∀ (s : State) (q : Request) (i : CallSlot) (c : Call), s.quiet = true → s.offers q → eventIs .delay s q = true →
    q.payload.length = 5 → s.eventCall (field2 q.payload 0) = some (i, c) → (c.state = .planned ∨ c.state = .arrived) →
    ∀ (d : Option Nat) (l : Bool),
      d = (if field2 q.payload 3 = 0xFFFF then none else some (min (field2 q.payload 3) 720)) →
      l = (match d with | some m => decide (s.lateThreshold ≤ m) | none => false) →
      exec .delay s = .next { s.answered q ResultCode.ok [] with
        calls := s.calls.set i.val
          (some { c with delay := d, late := l, noticePending := c.noticePending || (l != c.late) }) i.isLt }

/-- PLATFORM with the platform the call holds changes nothing; with another of 1..32, while no TIMETABLE announcement
of the call is in force, it records the platform left, sets the platform and P, and sets the notice-pending flag
(R127), also where neither a flag nor a trigger changes, which is the model's choice between R127 and R124 (log entry
35). -/
def Obligations.PlatformMovesCall : Prop :=
  ∀ (s : State) (q : Request) (i : CallSlot) (c : Call), s.quiet = true → s.offers q → eventIs .platform s q = true →
    q.payload.length = 5 → s.eventCall (field2 q.payload 0) = some (i, c) → (c.state = .planned ∨ c.state = .arrived) →
    1 ≤ field2 q.payload 3 → field2 q.payload 3 ≤ 32 →
    (field2 q.payload 3 = c.platform → exec .platform s = .next (s.answered q ResultCode.ok [])) ∧
    (field2 q.payload 3 ≠ c.platform →
      (∀ (h : Handle) x, s.recs[h] = some x → timetableOf c.id x = true → x.unfinished = false) →
      exec .platform s = .next { s.answered q ResultCode.ok [] with
        calls := s.calls.set i.val
          (some { c with
            prevPlatform := some c.platform, platform := field2 q.payload 3, changed := true, noticePending := true })
          i.isLt })

/-- PLATFORM amends the call's queued TIMETABLE announcement, here the one record in force: the record ends with AMENDED
and an empty covered set, and joins the finished list; the trigger that fired it loses its handle and returns to PENDING
(R127, R128, R129). -/
def Obligations.PlatformAmendsQueuedRecord : Prop :=
  ∀ (s : State) (q : Request) (i : CallSlot) (c : Call) (h : Handle) (x : Rec) (k : Fin 6), s.quiet = true →
    s.offers q → eventIs .platform s q = true → q.payload.length = 5 → s.eventCall (field2 q.payload 0) = some (i, c) →
    (c.state = .planned ∨ c.state = .arrived) → 1 ≤ field2 q.payload 3 → field2 q.payload 3 ≤ 32 →
    field2 q.payload 3 ≠ c.platform → h ≠ evacHandle → s.recs[h] = some x → timetableOf c.id x = true →
    x.state = .queued → x.trigger = some k → s.restingBut h = true →
    c.trigs[k] = ⟨.fired, some h⟩ → (∀ j : Fin 6, j ≠ k → (c.trigs[j]).handle ≠ some h) →
    exec .platform s = .next { s.answered q ResultCode.ok [] with
      calls := s.calls.set i.val
        (some { c with
          prevPlatform := some c.platform, platform := field2 q.payload 3, changed := true
          trigs := c.trigs.set k.val ⟨.pending, none⟩ k.isLt, noticePending := true }) i.isLt
      recs := s.recs.set h.val (some { x with state := .done, covered := 0, outcome := some .amended }) h.isLt
      mp := { (s.answered q ResultCode.ok []).mp with finished := s.mp.finished ++ [h] } }

/-- ARRIVED, accepted in PLANNED, sets A and moves the call to ARRIVED, whatever its kind; it ends no announcement and
changes no trigger, and from then on ARRIVED is true of a call that has not departed and the three conditions that need
A clear are false. In any other state it is refused with STATE (R130). -/
def Obligations.ArrivedMovesCall : Prop :=
  ∀ (s : State) (q : Request) (i : CallSlot) (c : Call), s.quiet = true → s.offers q → eventIs .arrived s q = true →
    q.payload.length = 5 → s.eventCall (field2 q.payload 0) = some (i, c) →
    (c.state = .planned →
      ∃ c' : Call, c' = { c with arrived := true, state := .arrived, noticePending := true } ∧
        exec .arrived s = .next { s.answered q ResultCode.ok [] with calls := s.calls.set i.val (some c') i.isLt } ∧
        (c.departed = false → conditionHolds 9 c' = true) ∧ conditionHolds 10 c' = false ∧
        conditionHolds 11 c' = false ∧ conditionHolds 12 c' = false) ∧
    (c.state ≠ .planned → exec .arrived s = .next (s.answered q ResultCode.state []))

/-- DEPARTED, accepted in PLANNED or ARRIVED, sets A and D, moves the call to DEPARTED and sets its retire time: the
retire delay after the station time, or after the expected time while the clock is INVALID. Triggers and announcements
stay (R119, R131). Otherwise it is refused with STATE. The mark of a found retirement is clear (log entry 17). -/
def Obligations.DepartedMovesCall : Prop :=
  ∀ (s : State) (q : Request) (i : CallSlot) (c : Call), s.quiet = true → s.offers q → eventIs .departed s q = true →
    q.payload.length = 5 → s.eventCall (field2 q.payload 0) = some (i, c) →
    ((c.state = .planned ∨ c.state = .arrived) →
      exec .departed s = .next { s.answered q ResultCode.ok [] with
        calls := s.calls.set i.val
          (some { c with
            arrived := true, departed := true, state := .departed, noticePending := true, foundDue := false
            retire := some ((if s.clock.valid = true then s.clock.day * 86400 + s.clock.second
              else c.day * 86400 + c.minute * 60 + c.delay.getD 0 * 60) + s.retireDelay * 60) }) i.isLt }) ∧
    ((c.state = .departed ∨ c.state = .cancelled) → exec .departed s = .next (s.answered q ResultCode.state []))

/-- CANCEL, accepted in PLANNED or ARRIVED, while no TIMETABLE announcement of the call is in force, sets C, moves the
call to CANCELLED, sets its retire time to the expected time plus 60 minutes and sets the notice-pending flag; no
trigger changes. In DEPARTED or CANCELLED it is refused with STATE (R132). The mark of a found retirement is clear (log
entry 17). -/
def Obligations.CancelMovesCall : Prop :=
  ∀ (s : State) (q : Request) (i : CallSlot) (c : Call), s.quiet = true → s.offers q → eventIs .cancel s q = true →
    q.payload.length = 5 → s.eventCall (field2 q.payload 0) = some (i, c) →
    ((c.state = .planned ∨ c.state = .arrived) →
      (∀ (h : Handle) x, s.recs[h] = some x → timetableOf c.id x = true → x.unfinished = false) →
      exec .cancel s = .next { s.answered q ResultCode.ok [] with
        calls := s.calls.set i.val
          (some { c with
            cancelled := true, state := .cancelled, noticePending := true, foundDue := false
            retire := some (c.day * 86400 + c.minute * 60 + c.delay.getD 0 * 60 + 3600) }) i.isLt }) ∧
    ((c.state = .departed ∨ c.state = .cancelled) → exec .cancel s = .next (s.answered q ResultCode.state []))

/-- REINSTATE, accepted in CANCELLED, clears C and the retire time, moves the call to ARRIVED if A is set and to
PLANNED otherwise, and returns to PENDING each NOT_MET or SUPPRESSED trigger that is late by no more than the catch-up
window, or every such trigger while the clock is INVALID; every other trigger stays. In any other state it is refused
with STATE (R133). The mark of a found retirement is clear (log entry 17). -/
def Obligations.ReinstateRearms : Prop :=
  ∀ (s : State) (q : Request) (i : CallSlot) (c : Call), s.quiet = true → s.offers q → eventIs .reinstate s q = true →
    q.payload.length = 5 → s.eventCall (field2 q.payload 0) = some (i, c) →
    (c.state = .cancelled →
      ∃ v : Vector Trig 6,
        (∀ j : Fin 6, v[j] =
          if ((c.trigs[j]).state = .notMet ∨ (c.trigs[j]).state = .suppressed) ∧
              (s.clock.valid = false ∨
                ((s.clock.day * 86400 + s.clock.second : Nat) : Int) - s.triggerTime c j ≤ (s.catchUp : Int)) then
            ⟨.pending, none⟩
          else c.trigs[j]) ∧
        exec .reinstate s = .next { s.answered q ResultCode.ok [] with
          calls := s.calls.set i.val
            (some { c with
              cancelled := false, state := if c.arrived = true then .arrived else .planned, retire := none, trigs := v
              noticePending := true, foundDue := false }) i.isLt }) ∧
    (c.state ≠ .cancelled → exec .reinstate s = .next (s.answered q ResultCode.state []))

/-- A CALL_EVENT whose event code is none of the six is refused with BAD_VALUE, and a request whose type names no
request with BAD_TYPE; neither changes anything else (R123, R181). -/
def Obligations.UnknownCodesRefused : Prop :=
  ∀ (s : State) (q : Request), s.quiet = true → s.offers q →
    (q.type.toNat = TypeCode.callEvent → q.payload.length = 5 → 6 ≤ octet q.payload 2 →
      exec .unknownEventCode s = .next (s.answered q ResultCode.badValue [])) ∧
    (q.type.toNat = 0 ∨ 16 ≤ q.type.toNat → exec .badTypeRequest s = .next (s.answered q ResultCode.badType []))

/-- A due trigger is judged by the first check that applies: too late is SKIPPED, CONFIG or EVAC is SUPPRESSED, a false
condition is NOT_MET. Otherwise it fires a TIMETABLE request, whose effective set is formed from the zones its point
selects: MISSED where the template is above 127 or empty, the set is empty, no handle is free, or the queue is full with
no less urgent record; FIRED with the handle of a new QUEUED record under the lowest free handle and the next sequence
number; or, where one QUEUED record of the call and the template is no repeat, FIRED with its handle, the request merged
into it. An accepted or merged request is a cause of the admission pass. Each sets the notice-pending flag and touches
nothing else (R50, R53, R110 to R112). -/
def Obligations.TriggersJudged : Prop :=
  ∀ (s : State) (slot : CallSlot) (c : Call) (k : Fin 6), s.calls[slot] = some c → (c.trigs[k]).state = .pending →
    s.pointUsed c.plan k = true → s.triggerTime c k ≤ (s.clock.seconds : Int) →
    ∀ (late held : Prop) (becomes : TrigState → Option Handle → State → State) (template : Nat) (cls : Cls)
      (zones effective : ZoneSet) (validUntil : Option Nat) (repeated : Bool) (target : Rec → Prop),
      (late ↔ (s.catchUp : Int) < (s.clock.seconds : Int) - s.triggerTime c k) →
      (held ↔ s.mp.device = .config ∨ s.mp.device = .evac) →
      (∀ q h u, becomes q h u = { u with
        calls := s.calls.set slot.val
          (some { c with trigs := c.trigs.set k.val ⟨q, h⟩ k.isLt, noticePending := true }) slot.isLt }) →
      template = s.pointTemplate c.plan k → cls = s.pointClass c.plan k → zones = s.selectedZones c k →
      effective = s.formEffective zones cls → repeated = s.pointRepeat c.plan k →
      validUntil = (if s.pointValidFor c.plan k = 0 then none
        else some (s.clock.day * 86400 + s.clock.second + s.pointValidFor c.plan k)) →
      (∀ x, target x ↔ x.state = .queued ∧ x.origin = .timetable ∧ x.isRepeat = false ∧ x.callId = some c.id ∧
        x.template = template) →
      (late → s.evaluateTrigger slot k = becomes .skipped none s) ∧
      (¬late → held → s.evaluateTrigger slot k = becomes .suppressed none s) ∧
      (¬late → ¬held → conditionHolds (s.pointCondition c.plan k) c = false →
        s.evaluateTrigger slot k = becomes .notMet none s) ∧
      (¬late → ¬held → conditionHolds (s.pointCondition c.plan k) c = true →
        (127 < template ∨ s.templateEmpty template = true ∨ effective = 0 →
          s.evaluateTrigger slot k = becomes .missed none s) ∧
        (template ≤ 127 → s.templateEmpty template = false → effective ≠ 0 →
          ((∀ (h : Handle) x, s.recs[h] = some x → ¬target x) →
            (s.freeHandle = none ∨ (32 ≤ s.queue.length ∧
                ∀ (h : Handle) x, s.recs[h] = some x → x.state = .queued → x.cls.rank ≤ cls.rank) →
              s.evaluateTrigger slot k = becomes .missed none s) ∧
            (∀ h, s.freeHandle = some h → s.queue.length < 32 →
              s.evaluateTrigger slot k = becomes .fired (some h) { s with
                recs := s.recs.set h.val (some
                  { queuedRec .timetable cls template (some c.id) (some k) zones effective validUntil false repeated with
                    seq := s.seqCounter + 1 }) h.isLt
                seqCounter := s.seqCounter + 1
                passDue := true })) ∧
          (∀ (h : Handle) x, s.recs[h] = some x → target x →
            (∀ (j : Handle) y, j ≠ h → s.recs[j] = some y → ¬target y) →
            s.evaluateTrigger slot k = becomes .fired (some h) { s with
              recs := s.recs.set h.val (some
                { x with
                  requested := x.requested ||| zones, effective := x.effective ||| effective
                  validUntil := match x.validUntil, validUntil with | some a, some b => some (max a b) | _, _ => none
                  repeatMissed := x.repeatMissed || repeated }) h.isLt
              passDue := true })))

/-! ### Announcements and pages -/

/-- An ANNOUNCE of a class other than EMERGENCY, accepted in EVAC while the evacuation record alone is in force, takes
the lowest free handle and the next sequence number, is QUEUED and waits there; the RESULT is OK and the handle (R45,
R49). -/
def Obligations.AnnounceWaitsInEvac : Prop :=
  ∀ (s : State) (q : Request) (c : Cls) (h : Handle), s.quiet = true → s.offers q →
    q.type.toNat = TypeCode.announce → q.payload.length = 10 → s.mp.device = .evac → announceClass q.payload = some c →
    c ≠ .emergency → octet q.payload 0 ≤ 127 → s.templateEmpty (octet q.payload 0) = false →
    (field2 q.payload 5 = 0 ∨ (s.findCall (field2 q.payload 5)).isSome = true) →
    s.formEffective (maskAt q.payload 2) c ≠ 0 → s.freeHandle = some h → s.restingBut evacHandle = true →
    (∀ x, s.recs[evacHandle] = some x → x.isAnnouncement = false ∧ x.state ≠ .queued) →
    ∃ x : Rec, x = { s.announceRec q.payload c with seq := s.seqCounter + 1 } ∧ x.state = .queued ∧ x.restarts = 0 ∧
      x.validUntil = (if field2 q.payload 7 = 0 ∨ s.clock.valid = false then none
        else some (s.clock.day * 86400 + s.clock.second + min (field2 q.payload 7) 3600)) ∧
      x.together = (q.payload.getD 9 0).getLsbD 0 ∧ x.repeatMissed = (q.payload.getD 9 0).getLsbD 1 ∧
      exec .announce s = .next { s.answered q ResultCode.ok (put1 h.val) with
        recs := s.recs.set h.val (some x) h.isLt
        seqCounter := s.seqCounter + 1 }

/-- An ANNOUNCE accepted in RUN on a part at rest starts at once (R49, R53, R55): its record is PLAYING on the
lowest-numbered IDLE channel with the resolved list of its template, it owns every zone of its effective set, and the
channel begins element 0. A gap runs at once and its start report makes the live set the start set; a phrase that may
be played is LOADING, its start report still to come (R57, R80, R81, R82). Where no channel is IDLE and the other
records in force are announcements, it seizes the channel of the least urgent one that is less urgent than it, and of
those the one with the highest sequence number, and begins on that channel as before, a burst in flight for it voided.
The victim, of the head end's own, below two restarts returns to QUEUED with one restart more and waits there; at two
restarts it ends with PREEMPTED and joins the finished list. Its zones are released before the new record claims its
own, each of which is FREE or the victim's (R54, R58, R90, R96). That a victim back in the queue has an empty detached
set is the model's reading (log entry 31). Sequence numbers are those the counter has given
(StacksAndSequencesStaySound). -/
def Obligations.AnnounceStartsOnIdlePart : Prop :=
  ∀ (s : State) (q : Request) (c : Cls) (h : Handle) (k : ChanId) (e : Resolved) (m : ZoneSet) (x : Rec) (begun : Channel),
    s.quiet = true → s.offers q → q.type.toNat = TypeCode.announce → q.payload.length = 10 → s.mp.device = .run →
    announceClass q.payload = some c → octet q.payload 0 ≤ 127 → s.templateEmpty (octet q.payload 0) = false →
    (field2 q.payload 5 = 0 ∨ (s.findCall (field2 q.payload 5)).isSome = true) →
    m = s.formEffective (maskAt q.payload 2) c → m ≠ 0 → s.freeHandle = some h → s.scan.under = none →
    (resolveTemplate s (octet q.payload 0) (s.callOfRec (s.announceRec q.payload c))).elements.head? = some e →
    (match e.what with | .gap _ => true | .phrase id => entryPlays s.storeSize (s.dirEntry id)) = true →
    x = { s.announceRec q.payload c with
      seq := s.seqCounter + 1
      state := .playing
      channel := some k
      list := (resolveTemplate s (octet q.payload 0) (s.callOfRec (s.announceRec q.payload c))).elements
      degraded := (resolveTemplate s (octet q.payload 0) (s.callOfRec (s.announceRec q.payload c))).degraded
      live := m
      start := match e.what with | .gap _ => m | .phrase _ => 0 } →
    begun = { s.chans[k] with
      state := match e.what with | .gap _ => .running | .phrase _ => .loading
      bound := some ⟨⟨h, s.seqCounter + 1⟩, c⟩
      index := 0
      cur := match e.what with
        | .gap n => .gap (n * 160)
        | .phrase id => .phrase (s.dirEntry id) (s.dirEntry id).start (s.dirEntry id).length (s.dirEntry id).length
      fifo := []
      loop := false
      loopWait := false
      endFlag := false
      startArmed := match e.what with | .gap _ => false | .phrase _ => true } →
    (s.resting = true → s.zonesIdle = true → s.idleChan = some k →
      ∃ t, exec .announce s = .next t ∧ t.recs = s.recs.set h.val (some x) h.isLt ∧
        t.chans = s.chans.set k.val begun k.isLt ∧
        (∀ z : ZoneId, t.zones[z] =
          if hasZone m z = true then
            { s.zones[z] with
              own := .owned ⟨h, s.seqCounter + 1⟩ none
              stack := s.zones[z].stack.filter fun r => decide (r ≠ ⟨h, s.seqCounter + 1⟩) }
          else s.zones[z]) ∧
        t = { s.answered q ResultCode.ok (put1 h.val) with
          recs := t.recs, chans := t.chans, zones := t.zones, seqCounter := s.seqCounter + 1
          mp := { (s.answered q ResultCode.ok (put1 h.val)).mp with changes := t.mp.changes } }) ∧
    (∀ (g : Handle) (y : Rec), s.sequencesSound = true → s.idleChan = none → s.recs[g] = some y →
      g ≠ evacHandle → y.isAnnouncement = true → (y.state = .playing ∨ y.state = .paused) → y.channel = some k → y.origin = .manual → c.rank < y.cls.rank →
      (∀ (j : Handle) w, j ≠ g → s.recs[j] = some w → w.state = .done ∨
        (j ≠ evacHandle ∧ w.isAnnouncement = true ∧ w.state = .playing ∧ w.live = w.effective ∧
          (w.cls.rank < y.cls.rank ∨ (w.cls.rank = y.cls.rank ∧ w.seq < y.seq)))) →
      (∀ z : ZoneId, s.zones[z].own.owner? = some ⟨g, y.seq⟩ → s.zones[z].own = .owned ⟨g, y.seq⟩ none ∧
        hasZone y.live z = true ∧ s.zones[z].stack = []) →
      (∀ z : ZoneId, s.zones[z].own ≠ .reserved ⟨g, y.seq⟩ ∧ ∀ w, s.zones[z].own ≠ .owned w (some ⟨g, y.seq⟩)) →
      (∀ z : ZoneId, hasZone y.live z = true → s.zones[z].own.owner? = some ⟨g, y.seq⟩) →
      (∀ z : ZoneId, hasZone m z = true → s.zones[z].own = .free ∨ s.zones[z].own.owner? = some ⟨g, y.seq⟩) →
      (∃ z : ZoneId, hasZone y.effective z = true ∧ s.usable z = true) →
      ∃ t v, exec .announce s = .next t ∧ t.recs = (s.recs.set g.val (some v) g.isLt).set h.val (some x) h.isLt ∧
        t.chans = s.chans.set k.val begun k.isLt ∧
        (y.restarts < 2 → v = { y with
          state := .queued, restarts := y.restarts + 1, channel := none, index := 0, live := 0, detached := 0, start := 0
          late := 0, list := if y.isRepeat = true then y.list else [] }) ∧
        (2 ≤ y.restarts → v = { y with
          state := .done, channel := none, live := 0, start := v.start, covered := 0, outcome := some .preempted }) ∧
        (∀ (z : ZoneId) (o : Zone), o = (if s.zones[z].own.owner? = some ⟨g, y.seq⟩ then
            { s.zones[z] with
              own := .free, lastReleased := some s.ti.frameCount
              blankUntil := some ((s.ti.frameCount + 32000) % 2 ^ 48) }
            else s.zones[z]) →
          t.zones[z] = if hasZone m z = true then
            { o with
              own := .owned ⟨h, s.seqCounter + 1⟩ none
              stack := o.stack.filter fun r => decide (r ≠ ⟨h, s.seqCounter + 1⟩) }
            else o) ∧
        t = { s.answered q ResultCode.ok (put1 h.val) with
          recs := t.recs, chans := t.chans, zones := t.zones, seqCounter := s.seqCounter + 1
          port := { s.port with
            busy := s.port.busy.map fun b =>
              if (s.chans[k]).inFlight = true ∧ b.chan = k then { b with void := true } else b }
          mp := { (s.answered q ResultCode.ok (put1 h.val)).mp with
            finished := if y.restarts < 2 then s.mp.finished else s.mp.finished ++ [g]
            changes := t.mp.changes } })

/-- ANN_CANCEL: a handle above 63 is refused with BAD_VALUE; a free handle, or one whose record is DONE, with
UNKNOWN_HANDLE; handle 63 with STATE while the evacuation record exists; a QUEUED announcement of the head end's own
ends with CANCELLED and an empty covered set, and joins the finished list (R58, R62). -/
def Obligations.AnnCancelEndsQueuedRecord : Prop :=
  ∀ (s : State) (q : Request), s.quiet = true → s.offers q → q.type.toNat = TypeCode.annCancel → q.payload.length = 1 →
    (64 ≤ octet q.payload 0 → exec .annCancel s = .next (s.answered q ResultCode.badValue [])) ∧
    ∀ h : Handle, octet q.payload 0 = h.val →
      ((∀ x, s.recs[h] = some x → x.state = .done) →
        exec .annCancel s = .next (s.answered q ResultCode.unknownHandle [])) ∧
      (∀ x, s.recs[h] = some x → x.unfinished = true → h = evacHandle →
        exec .annCancel s = .next (s.answered q ResultCode.state [])) ∧
      (∀ x, s.recs[h] = some x → x.state = .queued → x.isAnnouncement = true → x.origin = .manual → h ≠ evacHandle →
        exec .annCancel s = .next { s.answered q ResultCode.ok [] with
          recs := s.recs.set h.val (some { x with state := .done, covered := 0, outcome := some .cancelled }) h.isLt
          mp := { (s.answered q ResultCode.ok []).mp with finished := s.mp.finished ++ [h] } })

/-- A record in force that ends by ANN_CANCEL, PAGE_CLOSE or PAGE_HANG_EXPIRY becomes DONE with the outcome of the
event and joins the finished list; a page's covered set is its start set and an announcement's is empty; its channel is
IDLE. Where it is alone in force, every zone it owned is FREE, released at this frame count with the blanking that
follows, every zone reserved for it is FREE, and every other zone is as it was. Where it owns one zone and a record in
force stands on top of that zone's stack, the stack is popped: for a PLAYING announcement, live in the rest of its
effective set, the zone becomes RESERVED, and its record is as it was; for a LIVE page it is OWNED by the page at once
(R13 to R16, R57, R58, R61, R62, R147). The page that PAGE_HANG_EXPIRY ends is the open page of its slot, and a slot has
one at most (R60). The covered set is the start set held when the ending begins (log entry 13). -/
def Obligations.EndingsReleaseZones : Prop :=
  ∀ (s : State) (h : Handle) (x : Rec) (c : Instr) (o : EndOutcome) (u : State), s.quiet = true →
    s.recs[h] = some x → h ≠ evacHandle → (x.state = .playing ∨ x.state = .paused ∨ x.state = .live) →
    (x.origin = .manual ∨ x.origin = .page) →
    (∀ (z : ZoneId) y p, s.zones[z].own ≠ .owned y (some p)) →
    ((∃ q, s.offers q ∧ q.type.toNat = TypeCode.annCancel ∧ q.payload = put1 h.val ∧ c = .annCancel ∧ o = .cancelled ∧
        u = s.answered q ResultCode.ok []) ∨
      (∃ q, s.offers q ∧ q.type.toNat = TypeCode.pageClose ∧ q.payload = put1 h.val ∧ x.isPage = true ∧ c = .pageClose ∧
        o = .closed ∧ u = s.answered q ResultCode.ok []) ∨
      (∃ slot hang report, x.body = .page slot hang 0 report ∧ x.state = .live ∧ s.openPage slot = some ⟨h, x.seq⟩ ∧
        c = .pageHangExpiry slot ∧ o = .hang ∧ u = s)) →
    (s.restingBut h = true →
      ∃ t y, exec c s = .next t ∧ Ended s u t h x y o ∧ t.recs = s.recs.set h.val (some y) h.isLt ∧
        ∀ z : ZoneId, t.zones[z] =
          if s.zones[z].own.owner? = some ⟨h, x.seq⟩ then
            { s.zones[z] with
              own := .free, stack := [], lastReleased := some s.ti.frameCount
              blankUntil := some ((s.ti.frameCount + 32000) % 2 ^ 48) }
          else if s.zones[z].own = .reserved ⟨h, x.seq⟩ then { s.zones[z] with own := .free, stack := [] }
          else s.zones[z]) ∧
    (∀ (g : Handle) (w : Rec) (z : ZoneId) (rest : List RecRef), g ≠ h → g ≠ evacHandle → s.recs[g] = some w →
      (∀ (j : Handle) y, j ≠ h → j ≠ g → s.recs[j] = some y → y.state = .done) →
      s.zones[z].own = .owned ⟨h, x.seq⟩ none → s.zones[z].stack = ⟨g, w.seq⟩ :: rest → s.underTest z = false →
      (∀ y : ZoneId, y ≠ z → s.zones[y].own ≠ .owned ⟨h, x.seq⟩ none ∧ s.zones[y].own ≠ .reserved ⟨h, x.seq⟩) →
      (w.state = .playing → w.isAnnouncement = true →
        (∀ y : ZoneId, y ≠ z → hasZone w.effective y = true → hasZone w.live y = true) →
        ∃ t y, exec c s = .next t ∧ Ended s u t h x y o ∧ t.recs = s.recs.set h.val (some y) h.isLt ∧
          t.zones = s.zones.set z.val
            { s.zones[z] with
              own := .reserved ⟨g, w.seq⟩, stack := rest, lastReleased := some s.ti.frameCount
              blankUntil := some ((s.ti.frameCount + 32000) % 2 ^ 48) } z.isLt) ∧
      (w.state = .live → w.isPage = true →
        ∃ t y, exec c s = .next t ∧ Ended s u t h x y o ∧
          t.recs = (s.recs.set h.val (some y) h.isLt).set g.val (some
            { w with live := withZone w.live z, detached := withoutZone w.detached z }) g.isLt ∧
          t.zones = s.zones.set z.val
            { s.zones[z] with own := .owned ⟨g, w.seq⟩ none, stack := rest } z.isLt))

/-- The completion of the last element of a list that does not loop ends the record: COMPLETE where its start set
covers its effective set, PARTIAL otherwise, with the start set as its covered set; the channel becomes IDLE with its
end flag set; its zones are FREE (R57, R59, R85). The record is a MANUAL one. Alone in force, without REPEAT_MISSED, or
a repeat itself, or of class EMERGENCY, or with nothing missed, or with no zone to repeat in or no handle to take, it
makes no repeat. Where REPEAT_MISSED stands, a zone is missed, and a LIVE page owns every zone of the set formed from
the missed ones, the repeat is made under the lowest free handle, and waits in the queue: it holds the resolved list it
carries, and the record's repeat handle names it (R45, R47, R53, R59). That the covered set is the start set held when
the ending begins, with the zones the ending releases, is the model's reading (log entry 13). -/
def Obligations.LastElementCompletesRecord : Prop :=
  ∀ (s : State) (h : Handle) (x : Rec) (k : ChanId) (missed formed : ZoneSet) (left : ZoneId → Zone), s.quiet = true →
    s.recs[h] = some x → h ≠ evacHandle → x.state = .playing → x.isAnnouncement = true →
    x.origin = .manual → x.channel = some k →
    (∀ (z : ZoneId) y p, s.zones[z].own ≠ .owned y (some p)) → (s.chans[k]).ended = true →
    (s.chans[k]).bound.map Bound.ref = some ⟨h, x.seq⟩ → (s.chans[k]).index + 1 = x.list.length →
    (s.chans[k]).loop = false →
    missed = x.effective &&& ~~~x.start → formed = s.formEffective missed x.cls →
    (∀ z : ZoneId, left z =
      if s.zones[z].own.owner? = some ⟨h, x.seq⟩ then
        { s.zones[z] with
          own := .free, stack := [], lastReleased := some s.ti.frameCount
          blankUntil := some ((s.ti.frameCount + 32000) % 2 ^ 48) }
      else if s.zones[z].own = .reserved ⟨h, x.seq⟩ then { s.zones[z] with own := .free, stack := [] }
      else s.zones[z]) →
    ((x.repeatMissed = false ∨ x.isRepeat = true ∨ x.cls = .emergency ∨ x.cls = .live ∨ missed = 0 ∨ formed = 0 ∨
        s.freeHandle = none) → s.restingBut h = true →
      ∃ t y, exec (.elementEnd k) s = .next t ∧ t.recs = s.recs.set h.val (some y) h.isLt ∧ y.state = .done ∧
        y.outcome = some (if missed = 0 then .complete else .partly) ∧ y.covered = x.start ∧
        y.channel = none ∧ y.repeatHandle = x.repeatHandle ∧
        t.chans = s.chans.set k.val { (s.chans[k]).cleared with state := .idle, endFlag := true } k.isLt ∧
        (∀ z : ZoneId, t.zones[z] = left z) ∧
        t = { s with
          recs := t.recs, chans := t.chans, zones := t.zones
          mp := { s.mp with finished := s.mp.finished ++ [h], changes := t.mp.changes } }) ∧
    (∀ (g j : Handle) (w : Rec), x.repeatMissed = true → x.isRepeat = false →
      (x.cls = .safety ∨ x.cls = .call ∨ x.cls = .info) → missed ≠ 0 → formed ≠ 0 → s.freeHandle = some j → g ≠ h →
      g ≠ evacHandle → s.recs[g] = some w → w.state = .live → w.isPage = true → w.cls = .live →
      (∀ (i : Handle) y, i ≠ h → i ≠ g → s.recs[i] = some y → y.state = .done) →
      (∀ z : ZoneId, hasZone formed z = true → s.zones[z].own = .owned ⟨g, w.seq⟩ none) →
      (∀ z : ZoneId, s.zones[z].own.owner? = some ⟨h, x.seq⟩ ∨ s.zones[z].own = .reserved ⟨h, x.seq⟩ →
        s.zones[z].stack = []) →
      ∃ t y, exec (.elementEnd k) s = .next t ∧
        t.recs = (s.recs.set h.val (some y) h.isLt).set j.val (some
          { queuedRec .manual x.cls x.template x.callId x.trigger missed formed none x.together false with
            seq := s.seqCounter + 1, isRepeat := true, degraded := x.degraded, list := x.list }) j.isLt ∧
        y.state = .done ∧ y.outcome = some .partly ∧ y.covered = x.start ∧ y.channel = none ∧ y.repeatHandle = some j ∧
        t.chans = s.chans.set k.val { (s.chans[k]).cleared with state := .idle, endFlag := true } k.isLt ∧
        (∀ z : ZoneId, t.zones[z] = left z) ∧
        t = { s with
          recs := t.recs, chans := t.chans, zones := t.zones, seqCounter := s.seqCounter + 1
          mp := { s.mp with finished := s.mp.finished ++ [h], changes := t.mp.changes } })

/-- PAGE_OPEN on a part at rest, in RUN or QUIET, with a zone of its effective set FREE: the page takes the lowest free
handle and the next sequence number, owns every zone of its effective set, which is its start set, and its hang timer
starts with the full hang time, 0 selecting the default and other values clamped to 5..120 s (R45, R60). Where its one
zone is owned by a less urgent PLAYING announcement that keeps another live zone, the take is immediate while the
owner's current element is not bound: the owner is pushed, loses the zone and counts it as detached. While that element
is bound the take is deferred: the page becomes the zone's pending claim, and opens with empty live and start sets (R7,
R8, R9, R12). That no admission pass follows a PAGE_OPEN, which would serve the other record in force, is the model's
reading (log entry 21). -/
def Obligations.PageOpenTakesFreeZones : Prop :=
  ∀ (s : State) (q : Request) (h : Handle) (slot : SlotId), s.quiet = true → s.offers q →
    q.type.toNat = TypeCode.pageOpen → q.payload.length = 5 → octet q.payload 0 = slot.val →
    (s.mp.device = .run ∨ s.mp.device = .quiet) → s.freeHandle = some h →
    s.formEffective (maskAt q.payload 1) .live ≠ 0 → s.scan.under = none →
    ∀ (hang : Nat) (page : ZoneSet → Rec),
      hang = (if octet q.payload 4 = 0 then s.defaultHang else max 5 (min 120 (octet q.payload 4))) →
      (∀ m, page m = { pageRec slot hang (maskAt q.payload 1) (s.formEffective (maskAt q.payload 1) .live) with
        seq := s.seqCounter + 1, live := m, start := m }) →
      (∀ m, (page m).state = .live ∧ (page m).origin = .page ∧ (page m).cls = .live ∧
        (page m).body = .page slot hang (hang * 16000) false ∧ (page m).detached = 0 ∧ (page m).channel = none) ∧
      (s.resting = true → s.zonesIdle = true →
        ∃ t, exec .pageOpen s = .next t ∧
          t.recs = s.recs.set h.val (some (page (s.formEffective (maskAt q.payload 1) .live))) h.isLt ∧
          (∀ z : ZoneId, t.zones[z] =
            if hasZone (s.formEffective (maskAt q.payload 1) .live) z = true then
              { s.zones[z] with
                own := .owned ⟨h, s.seqCounter + 1⟩ none
                stack := s.zones[z].stack.filter fun r => decide (r ≠ ⟨h, s.seqCounter + 1⟩) }
            else s.zones[z]) ∧
          t = { s.answered q ResultCode.ok (put1 h.val) with
            recs := t.recs, zones := t.zones, seqCounter := s.seqCounter + 1
            mp := { (s.answered q ResultCode.ok (put1 h.val)).mp with changes := t.mp.changes } }) ∧
      (∀ (g : Handle) (y : Rec) (z : ZoneId) (e : Resolved), s.recs[g] = some y → s.restingBut g = true →
        y.state = .playing → y.isAnnouncement = true → Cls.live.rank < y.cls.rank → y.list[y.index]? = some e →
        withoutZone y.live z ≠ 0 → s.zones[z].own = .owned ⟨g, y.seq⟩ none →
        s.formEffective (maskAt q.payload 1) .live = withZone 0 z →
        (e.bound = false → exec .pageOpen s = .next { s.answered q ResultCode.ok (put1 h.val) with
          recs := (s.recs.set g.val (some
            { y with
              live := withoutZone y.live z, start := withoutZone y.start z
              detached := withZone y.detached z &&& y.effective }) g.isLt).set h.val (some (page (withZone 0 z))) h.isLt
          zones := s.zones.set z.val
            { s.zones[z] with
              own := .owned ⟨h, s.seqCounter + 1⟩ none
              stack := ⟨g, y.seq⟩ ::
                ((s.zones[z].stack.filter fun r => decide (r ≠ ⟨h, s.seqCounter + 1⟩)).filter fun r =>
                  decide (r.handle ≠ g)).take 2 } z.isLt
          seqCounter := s.seqCounter + 1 }) ∧
        (e.bound = true → exec .pageOpen s = .next { s.answered q ResultCode.ok (put1 h.val) with
          recs := s.recs.set h.val (some (page 0)) h.isLt
          zones := s.zones.set z.val
            { s.zones[z] with
              own := .owned ⟨g, y.seq⟩ (some ⟨h, s.seqCounter + 1⟩)
              stack := s.zones[z].stack.filter fun r => decide (r ≠ ⟨h, s.seqCounter + 1⟩) } z.isLt
          seqCounter := s.seqCounter + 1 }))

/-! ### Evacuation -/

/-- EVAC_START outside EVAC, on a part at rest: the device state becomes EVAC and the state left the prior state; the
evacuation record stands under handle 63 with sequence number 0 and owns every FREE zone of its set, which is its start
set. In SOURCE mode it is SOUNDING; in TEMPLATE mode it plays its resolved template, looping, on the lowest-numbered
IDLE channel (R23, R57, R161, R162, R163). In EVAC, with the evacuation record alone in force, EVAC_START replaces it:
device state and prior state stay, the record takes the new mode, source and set, its zones outside the new set are
FREE, and it owns, beside those it keeps, every FREE zone of the new set; its start set is formed afresh. To SOURCE its
channel, if it has one, becomes IDLE; to TEMPLATE it plays the new template on its own channel, restarted, or, from
SOUNDING, on the lowest-numbered IDLE one (R57, R90, R165). -/
def Obligations.EvacStartTakesZones : Prop :=
  ∀ (s : State) (q : Request) (k : ChanId) (e : Resolved) (m : ZoneSet) (takes : Rec → State → Prop), s.quiet = true →
    s.offers q → q.type.toNat = TypeCode.evacStart → q.payload.length = 5 → s.scan.under = none →
    m = s.evacZones (maskAt q.payload 2) →
    ((octet q.payload 0 = 1 ∧ octet q.payload 1 ≤ 7) ∨
      (octet q.payload 0 = 0 ∧ octet q.payload 1 ≤ 127 ∧ s.templateEmpty (octet q.payload 1) = false ∧
        (∃ z : ZoneId, hasZone m z = true ∧ (s.zones[z].own = .free ∨ s.zones[z].own.owner? = some evacRef)) ∧
        (resolveTemplate s (octet q.payload 1) none).elements.head? = some e ∧
        (match e.what with | .gap _ => true | .phrase id => entryPlays s.storeSize (s.dirEntry id)) = true)) →
    (∀ x t, takes x t ↔
      t.recs = s.recs.set 63 (some x) ∧ x.seq = 0 ∧ x.origin = .evac ∧ x.cls = .emergency ∧ x.effective = m ∧
      x.start = x.live ∧
      (∀ z : ZoneId, hasZone x.live z =
        (hasZone m z && (decide (s.zones[z].own = .free) || decide (s.zones[z].own.owner? = some evacRef)))) ∧
      (∀ z : ZoneId, t.zones[z] =
        if hasZone m z = true then
          (if s.zones[z].own = .free then
            { s.zones[z] with
              own := .owned evacRef none, stack := s.zones[z].stack.filter fun r => decide (r ≠ evacRef) }
          else s.zones[z])
        else if s.zones[z].own.owner? = some evacRef then
          { s.zones[z] with
            own := .free, stack := [], lastReleased := some s.ti.frameCount
            blankUntil := some ((s.ti.frameCount + 32000) % 2 ^ 48) }
        else s.zones[z]) ∧
      (octet q.payload 0 = 1 → x.state = .sounding ∧ x.body = .evacSource (Fin.ofNat 8 (octet q.payload 1)) ∧
        x.channel = none) ∧
      (octet q.payload 0 = 0 → x.state = .playing ∧ x.body = .evacTemplate ∧ x.template = octet q.payload 1 ∧
        x.channel = some k ∧ x.list = (resolveTemplate s (octet q.payload 1) none).elements ∧ x.index = 0 ∧
        (t.chans[k]).bound = some ⟨evacRef, .emergency⟩ ∧ (t.chans[k]).loop = true ∧ (t.chans[k]).index = 0 ∧
        (t.chans[k]).state = (match e.what with | .gap _ => .running | .phrase _ => .loading) ∧
        ∀ j, j ≠ k → t.chans[j] = s.chans[j])) →
    (s.mp.device ≠ .evac → s.resting = true → s.zonesIdle = true → (octet q.payload 0 = 0 → s.idleChan = some k) →
      ∃ t x, exec .evacStart s = .next t ∧ t.mp.device = .evac ∧ t.mp.prior = some s.mp.device ∧ takes x t ∧
        (octet q.payload 0 = 1 → t.chans = s.chans) ∧
        t = { s.answered q ResultCode.ok [] with
          recs := t.recs, chans := t.chans, zones := t.zones
          mp := { (s.answered q ResultCode.ok []).mp with
            device := .evac, prior := some s.mp.device, changes := t.mp.changes } }) ∧
    (∀ y : Rec, s.mp.device = .evac → s.recs[evacHandle] = some y → y.seq = 0 → y.origin = .evac → y.cls = .emergency →
      y.isAnnouncement = false → y.isPage = false → s.restingBut evacHandle = true →
      (∀ z : ZoneId, s.zones[z].own = .disabled ∨ s.zones[z].own = .free ∨ s.zones[z].own = .tripped ∨
        s.zones[z].own = .owned evacRef none) →
      (∀ z : ZoneId, evacRef ∉ s.zones[z].stack) →
      (∀ z : ZoneId, hasZone y.live z = decide (s.zones[z].own.owner? = some evacRef)) →
      ((y.channel = none ∧ (y.state = .sounding ∨ (y.state = .channelWait ∧ octet q.payload 0 = 1))) ∨
        (y.channel = some k ∧ (y.state = .playing ∨ y.state = .paused) ∧ (s.chans[k]).state ≠ .idle)) →
      (octet q.payload 0 = 0 → y.channel = none → s.idleChan = some k) →
      ∃ t x, exec .evacStart s = .next t ∧ takes x t ∧
        (octet q.payload 0 = 1 → ∀ j, t.chans[j] =
          if y.channel = some j then { (s.chans[j]).cleared with state := .idle } else s.chans[j]) ∧
        t = { s.answered q ResultCode.ok [] with
          recs := t.recs, chans := t.chans, zones := t.zones, port := t.port
          mp := { (s.answered q ResultCode.ok []).mp with changes := t.mp.changes } })

/-- EVAC_END outside EVAC is refused with STATE. In EVAC, with the evacuation record alone in force, the device state
becomes the prior state, which becomes absent; the record's zones are FREE and its channel IDLE; the RESULT is OK, and
directly after it stands the record's ANN_DONE with outcome COMPLETE and its start set covered; handle 63 is free (R44,
R166). That the covered set is the start set held when the ending begins, with the zones the ending releases, is the
model's reading (log entry 13). -/
def Obligations.EvacEndRestores : Prop :=
  ∀ (s : State) (q : Request), s.quiet = true → s.offers q → q.type.toNat = TypeCode.evacEnd → q.payload = [] →
    (s.mp.device ≠ .evac → exec .evacEnd s = .next (s.answered q ResultCode.state [])) ∧
    ∀ (x : Rec) (d : DeviceState), s.mp.device = .evac → s.mp.prior = some d → d ≠ .evac →
      s.recs[evacHandle] = some x → x.seq = 0 → x.origin = .evac → x.isAnnouncement = false → x.isPage = false →
      (x.state = .sounding ∨ x.state = .channelWait ∨ x.state = .playing ∨ x.state = .paused) →
      s.restingBut evacHandle = true → (∀ (z : ZoneId) y p, s.zones[z].own ≠ .owned y (some p)) →
      ∃ t, exec .evacEnd s = .next t ∧ t.mp.device = d ∧ t.mp.prior = none ∧ t.recs = s.recs.set 63 none ∧
        t.mp.outbound = s.mp.outbound ++ [resultMessage s q ResultCode.ok [],
          noticeMessage s TypeCode.annDone
            (annDonePayload evacHandle { x with covered := x.start, outcome := some .complete })] ∧
        (∀ k, x.channel = some k → (t.chans[k]).state = .idle) ∧
        (∀ k, x.channel ≠ some k → t.chans[k] = s.chans[k]) ∧
        (∀ z : ZoneId, t.zones[z] =
          if s.zones[z].own.owner? = some evacRef then
            { s.zones[z] with
              own := .free, stack := [], lastReleased := some s.ti.frameCount
              blankUntil := some ((s.ti.frameCount + 32000) % 2 ^ 48) }
          else if s.zones[z].own = .reserved evacRef then { s.zones[z] with own := .free, stack := [] }
          else s.zones[z]) ∧
        t = { s with
          recs := t.recs, chans := t.chans, zones := t.zones, port := t.port
          mp := { s.mp with
            requests := s.mp.requests.tail, outbound := t.mp.outbound, device := d, prior := none
            changes := t.mp.changes } }

/-! ### Faults and resets -/

/-- FAULT_CLEAR, on a part with no record in force but announcements that wait for a channel, sets each zone of its
mask to line state UNTESTED and trip state NONE, its over-count and no-report count to 0 and its trip override clear,
and makes a zone so returned from TRIPPED FREE, which a waiting record that holds it can no longer cover; the RESULT is
OK whatever the mask (R20, R153, R182). The zones of the mask that are then enabled for line tests are placed for
testing in ascending order, each with deferral count 0 and at one place only: in a round at the head of its list, the
test in progress going on, or, where the zone under test is the first of them, beginning afresh; outside a round at the
end of the clear list, whose first zone's test begins where none is in progress (R140, R154). -/
def Obligations.FaultClearClearsZones : Prop :=
  ∀ (s : State) (q : Request), s.quiet = true → s.offers q → q.type.toNat = TypeCode.faultClear →
    q.payload.length = 3 → s.onlyWaiting = true →
    ∃ t, exec .faultClear s = .next t ∧
      (∀ cleared : ZoneSet, (∀ z : ZoneId, hasZone cleared z =
          (hasZone (maskAt q.payload 0) z && decide (s.zones[z].trip ≠ .none) && decide (s.zones[z].own = .tripped))) →
        ∀ h : Handle, t.recs[h] = (s.recs[h]).map fun x =>
          if x.state = .queued then { x with barred := x.barred ||| (x.effective &&& cleared) } else x) ∧
      (∀ z : ZoneId, t.zones[z] =
        if hasZone (maskAt q.payload 0) z = true then
          { s.zones[z] with
            line := .untested, trip := .none, overCount := 0, noReport := 0, tripOverride := false
            own := if s.zones[z].trip ≠ .none ∧ s.zones[z].own = .tripped then .free else s.zones[z].own }
        else s.zones[z]) ∧
      (∀ (placed : List ZoneId) (put kept : List (ZoneId × Nat)),
        placed = (allZones.filter fun z => hasZone (maskAt q.payload 0) z && s.enabled z && s.lineTestOn z) →
        put = (placed.map fun z => (z, 0)) →
        (∀ u, s.scan.under = some u → hasZone (maskAt q.payload 0) u.zone = false →
          (s.scan.round = true → kept = s.scan.roundList.filter (fun p => !placed.contains p.1) →
            t.scan = { s.scan with roundList := put ++ kept }) ∧
          (s.scan.round = false → kept = s.scan.clearList.filter (fun p => !placed.contains p.1) →
            t.scan = { s.scan with clearList := kept ++ put })) ∧
        (∀ u, s.scan.under = some u → s.scan.round = true →
          placed.head? = some u.zone → s.zones[u.zone].own.hasOwner = false →
          kept = s.scan.roundList.filter (fun p => !placed.contains p.1) →
          t.scan = { s.scan with roundList := put ++ kept, under := some ⟨u.zone, 4000, none⟩ }) ∧
        (s.scan.under = none → s.scan.round = false → s.scan.clearList = [] →
          (placed = [] → t.scan = s.scan) ∧
          ∀ z, placed.head? = some z → s.zones[z].own.hasOwner = false →
            t.scan = { s.scan with clearList := put, under := some ⟨z, 4000, none⟩ })) ∧
      t = { s.answered q ResultCode.ok [] with
        zones := t.zones, scan := t.scan, recs := t.recs
        mp := { (s.answered q ResultCode.ok []).mp with changes := t.mp.changes } }

/-- RESET places its RESULT, carrying OK; from then on no request is taken and no notice is built (R192): such a command
changes nothing (log entry 4). -/
def Obligations.ResetStopsRequestsAndNotices : Prop :=
  (∀ (s : State) (q : Request), s.quiet = true → s.offers q → q.type.toNat = TypeCode.reset → q.payload = [] →
    exec .reset s = .next { s.answered q ResultCode.ok [] with
      mp := { (s.answered q ResultCode.ok []).mp with resetting := true } }) ∧
  (∀ (c : Instr) (s : State), s.quiet = true → s.mp.resetting = true →
    c ∈ [.paramWrite, .paramRead, .zoneEnableWrite, .zoneDisableWrite, .limiterModeWrite, .compensationWrite,
      .duckDepthWrite, .lateThresholdWrite, .changeMaskWrite, .clipCounterClear, .underrunCounterClear,
      .skippedCountClear, .linkCounterClear, .stateSet, .timeSet, .callSet, .callDelete, .delay, .platform, .arrived,
      .departed, .cancel, .reinstate, .announce, .annCancel, .pageOpen, .pageClose, .evacStart, .evacEnd,
      .faultClear, .reset, .badTypeRequest, .unknownEventCode, .annDoneBuild, .changeBuild, .callNoticeBuild] →
    exec c s = .next s)

/-- When the RESET's RESULT has left the Up port the soft reset is taken: Parameter Memory, the alignment states and
their counts, the frame count and the trunk address are kept, the port lets its burst complete, and everything else
takes the value its chapter gives; the pending set then holds masked items alone (R3, R25, R45, R79, R91, R98, R103,
R135, R138, R156, R176, R179, R189, R192). Index 0 of an IDLE channel, which R79 leaves absent, is the model's choice
(log entry 3). -/
def Obligations.SoftResetTakesResetValues : Prop :=
  ∀ s : State, s.pinHeld = false → s.work = [] → s.passDue = false → s.softResetDue = true →
    ∃ t, exec .softReset s = .next t ∧ t.mp.device = .config ∧ t.mp.prior = none ∧ t.mp.params = s.mp.params ∧
      t.mp.requests = [] ∧ t.mp.outbound = [] ∧ t.mp.reserved = 0 ∧ t.mp.finished = [] ∧ t.mp.resetting = false ∧
      t.mp.requestErrors = 0 ∧ t.mp.requestOverflows = 0 ∧ t.mp.downDiscards = 0 ∧ t.mp.upDiscards = 0 ∧
      t.mp.downLosses = 0 ∧ t.mp.upLosses = 0 ∧ t.changesSound = true ∧
      t.ti.downAlign = s.ti.downAlign ∧ t.ti.upAlign = s.ti.upAlign ∧ t.ti.downGood = s.ti.downGood ∧
      t.ti.downBad = s.ti.downBad ∧ t.ti.upGood = s.ti.upGood ∧ t.ti.upBad = s.ti.upBad ∧
      t.ti.timerRunning = s.ti.timerRunning ∧ t.ti.frameCount = s.ti.frameCount ∧ t.ti.address = s.ti.address ∧
      t.ti.downBuf = [] ∧ t.ti.upBuf = [] ∧ t.ti.downRx.isOpen = false ∧ t.ti.upRx.isOpen = false ∧
      t.ti.sending = .none ∧ t.ti.lastPart = true ∧
      (∀ h : Handle, t.recs[h] = none) ∧ t.seqCounter = 0 ∧ (∀ i : CallSlot, t.calls[i] = none) ∧
      t.clock = ⟨0, 0, false⟩ ∧ t.skipped = 0 ∧ (∀ k : ChanId, t.chans[k] = Channel.init) ∧
      (s.port.busy = none → t.port.busy = none ∧ t.port.lastGranted = 5) ∧
      (∀ b, s.port.busy = some b → t.port.busy = some { b with void := true } ∧ t.port.afterReset = true) ∧
      (∀ z : ZoneId, t.zones[z] =
        { Zone.init with
          own := if s.enabled z = true then .free else .disabled
          appliedMode := s.limiterMode z, appliedTimeout := s.limiterTimeout z }) ∧
      t.scan = ⟨false, [], [], none, some (s.scanInterval * 16000)⟩

/-- While the reset pin is held the part stands at its power-on values with the port's pins at high impedance (R91,
R167). At the release it stands at State.reset with the trunk address latched from the straps, 0xFF latched as 0xFE, and
the local frame timer running (R179). Without the pin held a release changes nothing (log entry 4). The values that the
spec gives no reset for, and the address that stands while the pin is held, are the model's (log entries 3 and 26). -/
def Obligations.ResetPinPowersOn : Prop :=
  (∀ s : State, exec .resetPinAssert s = .next
    { State.reset with
      pinHeld := true
      ti := { Trunk.init with timerRunning := false, address := s.ti.address }
      port := { Port.init with highZ := true }
      framesSent := s.framesSent
      pending := s.pending }) ∧
  (∀ (s : State) (straps : Byte), s.pinHeld = true → exec (.resetPinRelease straps) s = .next
    { State.reset with
      ti := { Trunk.init with address := if straps = 0xFF then 0xFE else straps }
      framesSent := s.framesSent
      pending := s.pending }) ∧
  (∀ (s : State) (straps : Byte), s.pinHeld = false → exec (.resetPinRelease straps) s = .next s)

/-! ### The trunk -/

/-- While a direction is not ALIGNED an arriving frame is examined for its sync octet alone: a good one raises the good
count, a bad one sets it to 0; nothing else happens. The fourth good one in a row makes the downstream direction
ALIGNED, stops the local frame timer, and its frame is the first frame event taken from the Up port (R169, R171); it
makes the upstream direction ALIGNED, and its frame is the first relayed (R172). While a direction is ALIGNED a frame
with a bad sync octet, up to the second in a row, does all that the same frame with a good one does, and raises the bad
count. So does the third one downstream, and it makes the direction HOLDOVER: the loss is counted, the local frame
timer starts, the message in reception is discarded, a request error if the part was taking it, the forward buffer is
emptied, and an open page, here the one record in force, ends with LINK_LOST, its zones FREE (R57, R58, R170). Upstream
the third one makes the direction LOST: the loss is counted, the frame is not relayed, and a forwarded message being
received is ended as it stands, the end flag on its last octet received (R172, R175); where that octet has left
already, nothing carries the flag, which is the model's reading (log entry 14). The upstream frames here carry sense
words of type NONE. The covered set is the start set held when the ending begins (log entry 13). -/
def Obligations.AlignmentMovesBySyncOctets : Prop :=
  ∀ (s : State) (f : List Byte), s.quiet = true →
    (f.length = 22 → s.ti.downAlign ≠ .aligned →
      (f.head? ≠ some 0xA5 →
        exec (.downstreamFrameArrival f) s = .next { s with ti := { s.ti with downGood := 0 } }) ∧
      (f.head? = some 0xA5 → s.ti.downGood < 3 →
        exec (.downstreamFrameArrival f) s = .next { s with ti := { s.ti with downGood := s.ti.downGood + 1 } }) ∧
      (f.head? = some 0xA5 → s.ti.downGood = 3 → s.nothingDue = true →
        (∀ k : ChanId, (s.chans[k]).loopWait = false) →
        ∃ t, exec (.downstreamFrameArrival f) s = .next t ∧ t.ti.downAlign = .aligned ∧ t.ti.timerRunning = false ∧
          t.ti.downGood = 0 ∧ t.ti.downBad = 0 ∧ t.ti.frameCount = (s.ti.frameCount + 1) % 2 ^ 48)) ∧
    (f.length = 54 → s.ti.upAlign ≠ .aligned →
      (f.head? ≠ some 0x5A →
        exec (.upstreamFrameArrival f) s = .next { s with ti := { s.ti with upGood := 0 } }) ∧
      (f.head? = some 0x5A → s.ti.upGood < 3 →
        exec (.upstreamFrameArrival f) s = .next { s with ti := { s.ti with upGood := s.ti.upGood + 1 } }) ∧
      (f.head? = some 0x5A → s.ti.upGood = 3 → (∀ z : ZoneId, senseType ((senseWords f).getD z.val 0) = .none) →
        ∃ t, exec (.upstreamFrameArrival f) s = .next t ∧ t.ti.upAlign = .aligned ∧ t.ti.upGood = 0 ∧ t.ti.upBad = 0 ∧
          t.ti.upSent.take 49 = 0x5A :: (f.drop 1).take 48 ∧ t.zones = s.zones ∧ t.ti.frameCount = s.ti.frameCount)) ∧
    (f.length = 22 → s.ti.downAlign = .aligned → f.head? ≠ some 0xA5 → s.nothingDue = true →
      (∀ k : ChanId, (s.chans[k]).loopWait = false) →
      ∃ u v, exec (.downstreamFrameArrival (0xA5 :: f.drop 1)) s = .next u ∧
        (s.ti.downBad < 2 → exec (.downstreamFrameArrival f) s = .next
          { u with ti := { u.ti with downBad := s.ti.downBad + 1 } }) ∧
        v = { u with
          ti := { u.ti with
            downAlign := .lost, downGood := 0, downBad := 0, timerRunning := true, downRx := .init, downBuf := [] }
          mp := { u.mp with
            downLosses := bump16 u.mp.downLosses
            requestErrors := min 65535 (u.mp.requestErrors +
              if u.ti.downRx.isOpen = true ∧ u.ti.downRx.taken = true then 1 else 0) } } ∧
        (s.ti.downBad = 2 → (∀ (h : Handle) x, s.recs[h] = some x → x.isPage = true → x.state = .done) →
          ∃ t, exec (.downstreamFrameArrival f) s = .next t ∧
            t = { v with mp := { v.mp with changes := t.mp.changes } }) ∧
        (∀ (h : Handle) (w : Rec), s.ti.downBad = 2 → s.recs[h] = some w → w.state = .live → w.isPage = true →
          w.origin = .page → h ≠ evacHandle → s.restingBut h = true →
          (∀ (z : ZoneId) y p, s.zones[z].own ≠ .owned y (some p)) →
          ∃ x y t, u.recs[h] = some x ∧ exec (.downstreamFrameArrival f) s = .next t ∧ Ended v v t h x y .linkLost ∧
            t.recs = u.recs.set h.val (some y) h.isLt ∧
            ∀ z : ZoneId, t.zones[z] =
              if s.zones[z].own.owner? = some ⟨h, w.seq⟩ then
                { u.zones[z] with
                  own := .free, stack := [], lastReleased := some u.ti.frameCount
                  blankUntil := some ((u.ti.frameCount + 32000) % 2 ^ 48) }
              else if s.zones[z].own = .reserved ⟨h, w.seq⟩ then { u.zones[z] with own := .free, stack := [] }
              else u.zones[z])) ∧
    (f.length = 54 → s.ti.upAlign = .aligned → f.head? ≠ some 0x5A →
      (∀ z : ZoneId, senseType ((senseWords f).getD z.val 0) = .none) →
      (s.ti.upBad < 2 → ∃ u, exec (.upstreamFrameArrival (0x5A :: f.drop 1)) s = .next u ∧
        exec (.upstreamFrameArrival f) s = .next { u with ti := { u.ti with upBad := s.ti.upBad + 1 } }) ∧
      (s.ti.upBad = 2 → ∃ t, exec (.upstreamFrameArrival f) s = .next t ∧ t = { s with
        ti := { s.ti with
          upAlign := .lost, upGood := 0, upBad := 0, upRx := .init
          upBuf := if s.ti.upRx.isOpen = true ∧ s.ti.upRx.forwarded = true then
              s.ti.upBuf.dropLast ++ (s.ti.upBuf.getLast?.map fun i => { i with last := true }).toList
            else s.ti.upBuf }
        mp := { s.mp with upLosses := bump16 s.mp.upLosses, changes := t.mp.changes } }))

/-- A frame event, by the expiry of the running local frame timer with every source sample 0 or by a downstream frame
with a good sync octet taken while ALIGNED: the frame count rises by 1, modulo 2^48, and decides which step events are
now due; every zone is mixed with its duck, held within D and, at a count that is a multiple of 32, stepped toward D in
a zone that is OWNED and toward 0 in any other; every channel emits; every zone whose result saturates steps its clip
counter; the Down port sends a frame of 60 octets: sync octet 0xA5, the 24 samples, the 24 zone commands, and at most
four octets of one message from the head of the forward buffer. The frame's own octets reach the message in reception:
one with a start flag opens a message, counting an open one that the part takes as a request error; an ended good one
taken by the part joins the request buffer, or is counted when the buffer holds four; a bad one is a request error; the
octets of one for another address enter the forward buffer, or it is counted where the buffer has no room; an octet
past the 247th discards the message, also where it carries the end flag, which is the model's reading (log entry 44).
While the upstream direction is not ALIGNED the part sends an upstream frame of its own, with 24 sense words of type
NONE and the octets the merger gives it. An open page's hang timer falls by 1, or restarts with the full hang time
where the page's sample reaches the activity threshold; a report at the very event of the expiry is kept beside it (log
entry 9). The test timer and the interval timer fall by 1. No other record, no call and no word of Parameter Memory
changes (R26, R36, R39 to R41, R61, R83, R137, R138, R140, R145, R149, R167 to R170, R172 to R174, R176 to R178). That
a duck above a new D becomes D before its step is the model's choice (log entry 46); the stepped duck is stored next
(DuckStepMovesDucks, log entry 5). -/
def Obligations.FrameEventSendsFrame : Prop :=
  ∀ (s u : State) (g m d : ZoneId → Nat) (c : Instr) (slots : List Word) (message : Option (Byte × List Byte)),
    s.quiet = true → s.nothingDue = true → (∀ k : ChanId, (s.chans[k]).loopWait = false) →
    ((c = .localFrameTimerExpiry ∧ s.ti.timerRunning = true ∧ slots = List.replicate 8 0 ∧ message = none) ∨
      (∃ f : List Byte, c = .downstreamFrameArrival f ∧ f.length = 22 ∧ f.head? = some 0xA5 ∧
        s.ti.downAlign = .aligned ∧ slots = wordsAt f 1 8 ∧ message = some (f.getD 17 0, (f.drop 18).take 4))) →
    (∀ z, g z = if s.zones[z].own.hasOwner = true then s.duckDepth z else 0) →
    (∀ z, m z = min s.zones[z].duck (s.duckDepth z)) →
    (∀ z, d z = if (s.ti.frameCount + 1) % 2 ^ 48 % 32 ≠ 0 then m z
      else if m z < g z then m z + 1 else if g z < m z then m z - 1 else m z) →
    u = { s with zones := Vector.ofFn fun z => { s.zones[z] with duck := d z } } →
    ∃ t o, exec c s = .next t ∧ t.ti.frameCount = (s.ti.frameCount + 1) % 2 ^ 48 ∧
      (∀ z, hasZone o z = s.zones[z].own.hasOwner) ∧
      t.owed = ⟨if t.ti.frameCount % 32 = 0 then some o else none, decide (t.ti.frameCount % 800 = 0),
        decide (t.ti.frameCount % 8000 = 0), decide (t.ti.frameCount % 16000 = 0)⟩ ∧
      (∀ k : ChanId, t.chans[k] = ((s.chans[k]).emit).1) ∧
      (∀ z : ZoneId, t.zones[z] = { s.zones[z] with
        duck := m z
        clip := if saturates (u.mixed slots s.emissions z) = true then bump16 s.zones[z].clip
          else s.zones[z].clip }) ∧
      t.ti.downSent.length = 60 ∧
      t.ti.downSent.take 55 = 0xA5 ::
        ((allZones.map fun z => saturate (u.mixed slots s.emissions z)).flatMap putWord ++
          commandOctets (allZones.map s.zoneCommand)) ∧
      (message = none → t.ti.downRx = s.ti.downRx ∧
        t.ti.downBuf = s.ti.downBuf.drop (oneMessage 4 s.ti.downBuf).length ∧
        t.ti.downSent.drop 55 = s.channelOctets (carriedItems (oneMessage 4 s.ti.downBuf)) ∧
        t.mp.requests = s.mp.requests ∧ t.mp.requestErrors = s.mp.requestErrors ∧
        t.mp.requestOverflows = s.mp.requestOverflows ∧ t.mp.downDiscards = s.mp.downDiscards) ∧
      (∀ (m : Byte × List Byte) (v : List Byte) (start fin done : Bool) (rx : Reception), message = some m →
        v = heard m → start = (m.1.getLsbD 7 && !v.isEmpty) → fin = (m.1.getLsbD 6 && !v.isEmpty) →
        rx = (if start = true then openedDown s.ti.address s.ti.downBuf (v.getD 0 0) else s.ti.downRx) →
        done = (rx.isOpen && rx.taken && fin) →
        (rx.octets.length + v.length ≤ 247 →
          t.ti.downRx = afterFrame rx fin v ∧
          t.ti.downBuf = (s.ti.downBuf ++ forwardedBy rx start fin v).drop (oneMessage 4 s.ti.downBuf).length ∧
          t.ti.downSent.drop 55 = s.channelOctets (carriedItems (oneMessage 4 s.ti.downBuf)) ∧
          t.mp.requests = (if done = true ∧ messageGood (rx.octets ++ v) = true ∧ s.mp.requests.length < 4 then
            s.mp.requests ++ [requestOf (rx.octets ++ v)] else s.mp.requests) ∧
          t.mp.requestOverflows = (if done = true ∧ messageGood (rx.octets ++ v) = true ∧ 4 ≤ s.mp.requests.length then
            bump16 s.mp.requestOverflows else s.mp.requestOverflows) ∧
          t.mp.requestErrors = min 65535 (s.mp.requestErrors +
            (if start = true ∧ s.ti.downRx.isOpen = true ∧ s.ti.downRx.taken = true then 1 else 0) +
            (if done = true ∧ messageGood (rx.octets ++ v) = false then 1 else 0)) ∧
          t.mp.downDiscards = min 65535 (s.mp.downDiscards +
            (if start = true ∧ v.getD 0 0 ≠ s.ti.address ∧ hasRoom s.ti.downBuf = false then 1 else 0))) ∧
        (rx.isOpen = true → v ≠ [] → 247 < rx.octets.length + v.length →
          t.ti.downRx = .init ∧ t.mp.requests = s.mp.requests ∧ t.mp.requestOverflows = s.mp.requestOverflows ∧
          t.mp.requestErrors = min 65535 (s.mp.requestErrors + (if rx.taken = true then 1 else 0)) ∧
          t.mp.downDiscards = min 65535 s.mp.downDiscards)) ∧
      (s.ti.upAlign = .aligned → t.ti.upSent = s.ti.upSent ∧ t.ti.upBuf = s.ti.upBuf ∧ t.ti.sending = s.ti.sending ∧
        t.ti.lastPart = s.ti.lastPart ∧ t.mp.outbound = s.mp.outbound) ∧
      (s.ti.upAlign ≠ .aligned → ∃ (words : List Word) (sent : Carried), words.length = 24 ∧
        (∀ w ∈ words, w.toNat / 4096 = 0) ∧ MergerSends s t s.ti.upBuf s.ti.upBuf sent ∧
        t.ti.upSent = 0x5A :: (words.flatMap putWord ++
          messageChannel (s.framesSent + 1) sent.start sent.fin sent.octets)) ∧
      (∀ (h : Handle) x, s.recs[h] = some x → x.state ≠ .live ∨ x.isPage = false → t.recs[h] = some x) ∧
      (∀ h : Handle, s.recs[h] = none → t.recs[h] = none) ∧
      (∀ (h : Handle) (x : Rec) (slot : SlotId) (hang timer : Nat) (report active : Bool), s.recs[h] = some x →
        x.state = .live → x.body = .page slot hang timer report →
        active = decide (s.activityThreshold ≤ ((slots.getD slot.val 0).toInt).natAbs) →
        t.recs[h] = some { x with
          body :=
            if timer ≤ 1 then .page slot hang 0 (report || active)
            else .page slot hang (if active = true then hang * 16000 else timer - 1) report }) ∧
      t.scan = { s.scan with
        under := s.scan.under.map fun r => { r with timer := r.timer - 1 }
        interval := s.scan.interval.map fun n => n - 1 } ∧
      t.ti.upRx = s.ti.upRx ∧ t.ti.address = s.ti.address ∧
      t.ti.downAlign = s.ti.downAlign ∧ t.ti.upAlign = s.ti.upAlign ∧ t.calls = s.calls ∧ t.clock = s.clock ∧
      t.mp.params = s.mp.params ∧ t.mp.device = s.mp.device ∧ t.seqCounter = s.seqCounter ∧ t.port = s.port ∧
      t.pending = s.pending

/-- An upstream frame with a good sync octet, taken while ALIGNED, is relayed with its 24 sense words unchanged (R172),
and each zone takes its word: NONE changes nothing; CURR moves the over-count under the TRIP rule, and starts or feeds
regulation otherwise, and is disregarded while a trip is latched (R144, R145); AMB sets the target where it is accepted
(R147, R148); LOAD is kept for the zone under test (R140). The over-count stops at 64 (log entry 29). One zone here at
most reaches its deglitch count: it trips with OVERLOAD, its owner is detached without a push, its stack, its pending
claim and its reservation go, and its fallback joins the effective set of each record that holds the zone, none of them
a page or the evacuation record; the owner keeps another live zone or does not play (R19, R21, R151, R152). The frame's
own octets reach the upstream message in reception and enter the forward buffer, or the message is counted where the
buffer has no room; the frame sent carries what the merger gives it: the message being sent goes on, four octets a
frame, and after it the head of the outbound queue and a forwarded message alternate while both wait (R173, R175, R176,
R178); a forwarded message whose first octet arrives with this frame is ready, and its octets leave from the next
frame on. An octet past a message's 247th is not covered. -/
def Obligations.UpstreamFrameRelayedAndSensed : Prop :=
  ∀ (s : State) (f : List Byte), s.quiet = true → f.length = 54 → f.head? = some 0x5A → s.ti.upAlign = .aligned →
    ∀ w : ZoneId → Word, (∀ z, w z = BitVec.ofNat 16 (octet f (1 + 2 * z.val) * 256 + octet f (2 + 2 * z.val))) →
    ∀ trips : Option ZoneId,
    (∀ z : ZoneId, trips = some z ↔ (w z).toNat / 4096 = 1 ∧ s.zones[z].trip = .none ∧
      s.zones[z].underTripRule = true ∧ s.overcurrent z < (w z).toNat % 4096 ∧
      s.deglitch z ≤ min 64 (s.zones[z].overCount + 1)) →
    (∀ z : ZoneId, trips = some z → s.plainTrip z ∧ s.underTest z = false) →
    ∃ t, exec (.upstreamFrameArrival f) s = .next t ∧ t.ti.upBad = 0 ∧ t.ti.upAlign = .aligned ∧
      t.ti.upSent.length = 54 ∧ t.ti.upSent.take 49 = 0x5A :: (f.drop 1).take 48 ∧
      (∀ (m : Byte × List Byte) (v : List Byte) (start fin : Bool) (rx : Reception),
        m = (f.getD 49 0, (f.drop 50).take 4) → v = heard m → start = (m.1.getLsbD 7 && !v.isEmpty) →
        fin = (m.1.getLsbD 6 && !v.isEmpty) →
        rx = (if start = true then openedUp s.ti.upBuf else s.ti.upRx) → rx.octets.length + v.length ≤ 247 →
        t.ti.upRx = afterFrame rx fin v ∧
        t.mp.upDiscards = min 65535 (s.mp.upDiscards +
          (if start = true ∧ hasRoom s.ti.upBuf = false then 1 else 0)) ∧
        ∃ sent : Carried, MergerSends s t s.ti.upBuf (s.ti.upBuf ++ forwardedBy rx start fin v) sent ∧
          t.ti.upSent.drop 49 = messageChannel s.framesSent sent.start sent.fin sent.octets) ∧
      (∀ z : ZoneId, t.zones[z] =
        if trips = some z then
          s.trippedZone z { s.zones[z] with overCount := min 64 (s.zones[z].overCount + 1) } .overload
        else if (w z).toNat / 4096 = 1 ∧ s.zones[z].trip = .none then
          (if s.zones[z].underTripRule = true then
            { s.zones[z] with
              overCount := if s.overcurrent z < (w z).toNat % 4096 then min 64 (s.zones[z].overCount + 1) else 0 }
          else if s.zones[z].limActive = true then
            { s.zones[z] with
              aboveSince := if s.overcurrent z < (w z).toNat % 4096 then .above else .notAbove }
          else if s.overcurrent z < (w z).toNat % 4096 then
            { s.zones[z] with limActive := true, limR := 0, elapsed := 0, aboveSince := .above }
          else s.zones[z])
        else if (w z).toNat / 4096 = 3 ∧ s.acceptsAmb z = true then
          { s.zones[z] with
            cTarget := (max 0 (min (s.compMax z : Int)
              ((((w z).toNat % 4096 % 128 : Nat) - (s.aref z : Int)) * s.slope z / 2))).toNat }
        else s.zones[z]) ∧
      t.scan = { s.scan with
        under := s.scan.under.map fun u =>
          if (w u.zone).toNat / 4096 = 2 then { u with load := some ((w u.zone).toNat % 4096) } else u } ∧
      (trips = none → t.recs = s.recs) ∧
      (∀ z : ZoneId, trips = some z → ∀ h : Handle, t.recs[h] = (s.recs[h]).map (s.afterTrip z h)) ∧
      t.chans = s.chans ∧ t.calls = s.calls ∧ t.clock = s.clock ∧ t.mp.params = s.mp.params ∧
      t.mp.device = s.mp.device ∧ t.mp.requests = s.mp.requests ∧ t.ti.frameCount = s.ti.frameCount ∧
      t.ti.downAlign = s.ti.downAlign ∧ t.pending = s.pending

/-! ### Events keyed to the frame count -/

/-- The duck step event of a frame event whose count is a multiple of 32 moves each zone's duck, held within D (R40),
one step toward its target, D in a zone that was OWNED at that frame event and 0 in any other, and changes nothing else
(R39). That frame event has mixed with these ducks (FrameEventSendsFrame). Every other command takes the step first, so
that none comes between; where no step is owed DUCK_STEP_EVENT changes nothing (the model's choice, log entry 4). That
the step is stored by a command of its own is the model's reading (log entry 5), and that the clamp comes before the
step its choice (log entry 46). -/
def Obligations.DuckStepMovesDucks : Prop :=
  (∀ (s : State) (o : ZoneSet), { s with owed := { s.owed with duck := none } }.quiet = true → s.owed.duck = some o →
    ∃ t, exec .duckStepEvent s = .next t ∧
      (∀ (z : ZoneId) (target d : Nat), target = (if hasZone o z = true then s.duckDepth z else 0) →
        d = min s.zones[z].duck (s.duckDepth z) →
        t.zones[z] = { s.zones[z] with duck := if d < target then d + 1 else if target < d then d - 1 else d }) ∧
      t = { s with zones := t.zones, owed := { s.owed with duck := none } } ∧
      ∀ c : Instr, c ≠ .duckStepEvent → (∀ straps, c ≠ .resetPinRelease straps) → exec c s = exec c t) ∧
  (∀ s : State, s.quiet = true → exec .duckStepEvent s = .next s)

/-- A limiter step event acts on each zone whose limiter active flag is set: elapsed regulation rises by 1 below the
timeout count; r rises by 2, to at most 24, if the last CURR word was above, and otherwise falls by 1, to at least 0;
above-since-step becomes none; r at 0 ends regulation; REGULATE_THEN_TRIP at its timeout stops it with the trip override
set. Every other zone is as it was. One zone here at most is one that REGULATE_THEN_MUTE trips: it trips with
LIMIT_TIMEOUT, its owner is detached without a push, its stack, its pending claim and its reservation go, and its
fallback joins the effective set of each record that holds the zone (R19, R21, R145, R146, R151, R152). In the first
part no page and no evacuation record gains the fallback, and the owner keeps another live zone or does not play; in the
second the zone's owner is a LIVE page, alone in force, and it takes the fallback, which is FREE, at that moment (R22),
and that zone alone, whatever else of its effective set is FREE: that is the model's reading (log entry 21). -/
def Obligations.LimiterStepMovesReduction : Prop :=
  ∀ (s : State) (r e n : ZoneId → Nat) (v : ZoneId → Zone) (trips : Option ZoneId), s.quiet = true →
    s.owed.limiter = true →
    (∀ z, n z = (match s.zones[z].appliedTimeout with | .s1 => 20 | .s2 => 40 | .s4 => 80 | .s8 => 160)) →
    (∀ z, r z = if s.zones[z].aboveSince = .above then min 24 (s.zones[z].limR + 2) else s.zones[z].limR - 1) →
    (∀ z, e z = if s.zones[z].elapsed < n z then s.zones[z].elapsed + 1 else s.zones[z].elapsed) →
    (∀ z : ZoneId, trips = some z ↔ s.zones[z].limActive = true ∧ s.zones[z].appliedMode = .regulateThenMute ∧
      s.zones[z].trip = .none ∧ r z ≠ 0 ∧ n z ≤ e z) →
    (∀ z : ZoneId, v z =
      if trips = some z then s.trippedZone z s.zones[z] .limitTimeout
      else if s.zones[z].limActive = false then s.zones[z]
      else if r z = 0 then { s.zones[z] with limR := 0, aboveSince := .none, limActive := false, elapsed := 0 }
      else if n z ≤ e z ∧ s.zones[z].appliedMode = .regulateThenTrip then
        { s.zones[z] with
          limR := 0, aboveSince := .none, limActive := false, elapsed := 0, overCount := 0, tripOverride := true }
      else { s.zones[z] with limR := r z, aboveSince := .none, elapsed := e z }) →
    ((∀ z : ZoneId, trips = some z → s.plainTrip z ∧ s.underTest z = false) →
      ∃ t, exec .limiterStepEvent s = .next t ∧ (∀ z : ZoneId, t.zones[z] = v z) ∧
        (trips = none → t = { s with zones := t.zones, owed := { s.owed with limiter := false } }) ∧
        (∀ z : ZoneId, trips = some z →
          (∀ h : Handle, t.recs[h] = (s.recs[h]).map (s.afterTrip z h)) ∧
          t = { s with
            zones := t.zones, recs := t.recs, owed := { s.owed with limiter := false }
            mp := { s.mp with changes := t.mp.changes } })) ∧
    (∀ (z f : ZoneId) (h : Handle) (x : Rec), trips = some z → s.recs[h] = some x → x.state = .live →
      x.isPage = true → h ≠ evacHandle → s.restingBut h = true → s.zones[z].own.owner? = some ⟨h, x.seq⟩ →
      s.underTest z = false → s.underTest f = false → s.fallback z = some f → s.zones[f].own = .free →
      hasZone x.effective z = true → hasZone x.effective f = false → hasZone x.live f = false →
      (s.zones[f].stack.any fun q => decide (q = ⟨h, x.seq⟩)) = false →
      ∃ t, exec .limiterStepEvent s = .next t ∧
        (∀ y : ZoneId, t.zones[y] = if y = f then { v f with own := .owned ⟨h, x.seq⟩ none } else v y) ∧
        t.recs = s.recs.set h.val (some
          { x with
            live := withZone (withoutZone x.live z) f, start := withoutZone x.start z
            detached := withoutZone (withZone x.detached z &&& x.effective) f
            effective := withZone x.effective f, barred := withZone x.barred f }) h.isLt ∧
        t = { s with
          zones := t.zones, recs := t.recs, owed := { s.owed with limiter := false }
          mp := { s.mp with changes := t.mp.changes } })

/-- A compensation step event moves c one step toward c_t in each zone whose trip state is NONE, owned or not, and
changes nothing else but the pending set (R149). A zone's compensation item, HELD 3 while the zone has an owner and
otherwise AT_TARGET 0, BELOW 1 or ABOVE 2 (R150), joins the pending set where its value changed and its mask bit is set,
and no other item does (R189). -/
def Obligations.CompensationStepMovesC : Prop :=
  ∀ (s : State) (status : Zone → Nat), s.quiet = true → s.owed.compensation = true →
    (∀ x, status x = if x.own.hasOwner = true then 3 else if x.comp < x.cTarget then 1
      else if x.cTarget < x.comp then 2 else 0) →
    ∃ t, exec .compensationStepEvent s = .next t ∧
      (∀ z : ZoneId, t.zones[z] = { s.zones[z] with
        comp :=
          if s.zones[z].trip ≠ .none then s.zones[z].comp
          else if s.zones[z].comp < s.zones[z].cTarget then s.zones[z].comp + 1
          else if s.zones[z].cTarget < s.zones[z].comp then s.zones[z].comp - 1
          else s.zones[z].comp }) ∧
      (∀ z : ZoneId, s.itemJoins t (4 * z.val + 2) (status s.zones[z]) (status t.zones[z])) ∧
      (∀ k, (∀ z : ZoneId, k ≠ 4 * z.val + 2) → s.itemStays t k) ∧
      t = { s with
        zones := t.zones
        owed := { s.owed with compensation := false }
        mp := { s.mp with changes := t.mp.changes } }

/-- A second event advances a VALID clock by one second, from second 86399 to second 0 of the next day, modulo 65536;
an INVALID clock stands, and nothing is evaluated. Where no trigger is due, each call record whose retire time is at or
before the time reached is freed, or found due for retirement while its notice is pending, and every other one is found
not due; a QUEUED announcement whose valid-until is earlier than that time, one of the head end's own where there is
one, ends with STALE and an empty covered set and joins the finished list; nothing else changes, whichever of staleness
and triggers is taken first (R52, R58, R103, R110, R120). Where exactly one trigger is due, no record is stale and no
call is due for retirement or was found so, the trigger is judged at the time reached, as TriggersJudged says, and the
admission pass follows if the judging caused one (R53, R110). The choice is the command's operand (log entry 8), and
that the record keeps the finding is the model's reading (log entry 17). -/
def Obligations.SecondEventAdvancesClock : Prop :=
  ∀ (s : State) (b : Bool) (k : Clock) (due : CallSlot → Fin 6 → Prop), s.quiet = true → s.owed.second = true →
    k = (if s.clock.valid = false then s.clock
      else if s.clock.second + 1 < 86400 then ⟨s.clock.day, s.clock.second + 1, true⟩
      else ⟨(s.clock.day + 1) % 65536, 0, true⟩) →
    (∀ i j, due i j ↔ ∃ c, s.calls[i] = some c ∧ (c.trigs[j]).state = .pending ∧ s.pointUsed c.plan j = true ∧
      s.triggerTime c j ≤ ((k.day * 86400 + k.second : Nat) : Int)) →
    (∀ (i : CallSlot) (j : Fin 6) (v : State), s.clock.valid = true → (∀ a e, due a e ↔ a = i ∧ e = j) →
      (∀ (h : Handle) x u, s.recs[h] = some x → x.state = .queued → x.validUntil = some u →
        k.day * 86400 + k.second ≤ u) →
      (∀ (a : CallSlot) c, s.calls[a] = some c → c.foundDue = false ∧
        ∀ r, c.retire = some r → k.day * 86400 + k.second < r) →
      v = ({ s with clock := k, owed := { s.owed with second := false } }).evaluateTrigger i j →
      exec (.secondEvent b) s = .next (v.carryOut id) ∧ (v.passDue = false → exec (.secondEvent b) s = .next v)) ∧
    ∀ stale : Option Handle,
    (s.clock.valid = true →
      (∀ i j, ¬due i j) ∧
      (∀ (h : Handle) x, s.recs[h] = some x →
        ((x.state = .queued ∧ ∃ u, x.validUntil = some u ∧ u < k.day * 86400 + k.second) ↔ stale = some h)) ∧
      (∀ h, stale = some h → h ≠ evacHandle ∧
        ∃ x, s.recs[h] = some x ∧ x.origin = .manual ∧ x.isAnnouncement = true)) →
    ∃ t, exec (.secondEvent b) s = .next t ∧
      (s.clock.valid = false → t.calls = s.calls) ∧
      (s.clock.valid = true → ∀ i : CallSlot, t.calls[i] = (s.calls[i]).bind fun c =>
        if (match c.retire with | some r => decide (r ≤ k.day * 86400 + k.second) | none => false) = true then
          (if c.noticePending = true then some { c with foundDue := true } else none)
        else some { c with foundDue := false }) ∧
      (s.clock.valid = false ∨ stale = none → t.recs = s.recs ∧ t.mp.finished = s.mp.finished) ∧
      (∀ (h : Handle) x, s.clock.valid = true → stale = some h → s.recs[h] = some x →
        t.recs = s.recs.set h.val (some { x with state := .done, covered := 0, outcome := some .stale }) h.isLt ∧
          t.mp.finished = s.mp.finished ++ [h]) ∧
      t = { s with
        clock := k, calls := t.calls, recs := t.recs, owed := { s.owed with second := false }
        mp := { s.mp with finished := t.mp.finished } }

/-! ### The line test scan -/

/-- At the interval timer's expiry a round begins with the eligible zones in ascending order, each with deferral count
0. The test of the first of them without an owner begins at once, 4,000 frame events long; the zones before it, each
with an owner, have moved to the end of the list with deferral count 1. Where every eligible zone has an owner, or no
zone is eligible, each zone leaves the list at its third turn, the round ends at once, and the interval timer starts
again with the scan interval then set (R138, R139, R140). -/
def Obligations.ScanRoundForms : Prop :=
  ∀ s : State, s.quiet = true → s.scan = ⟨false, [], [], none, some 0⟩ →
    ∀ l : List ZoneId,
    l = (allZones.filter fun y => s.enabled y && s.lineTestOn y && decide (s.zones[y].trip = .none) &&
        decide (s.zones[y].line ≠ .openLine) && decide (s.zones[y].line ≠ .shortLine)) →
    (∀ (owned rest : List ZoneId) (z : ZoneId), l = owned ++ z :: rest →
      (∀ y ∈ owned, s.zones[y].own.hasOwner = true) → s.zones[z].own.hasOwner = false →
      exec .scanRoundBegin s = .next { s with
        scan :=
          ⟨true, ((z :: rest).map fun y => (y, 0)) ++ owned.map fun y => (y, 1), [], some ⟨z, 4000, none⟩, none⟩ }) ∧
    ((∀ y ∈ l, s.zones[y].own.hasOwner = true) →
      exec .scanRoundBegin s = .next { s with scan := ⟨false, [], [], none, some (s.scanInterval * 16000)⟩ })

/-- At a test's end the latest LOAD value is compared with the limits N (100 + t) / 100 and N (100 - t) / 100: above is
OPEN, below SHORT, within them NORMAL, each with no-report count 0; without a LOAD word the count rises, and at 3 the
line state is NO_REPORT. A SHORT zone that isolates trips with ISOLATED: where it is enabled it is TRIPPED, an owner is
detached without a push, its stack, its pending claim and its reservation go, and its fallback joins the effective set
of each record that holds the zone, none of them a page or the evacuation record (R19, R21, R141, R142, R152). Every
other zone is as it was. An owner that plays keeps another live zone. Where the zone has tripped meanwhile, a SHORT
result sets the line state and any other changes nothing (R151; log entry 23). -/
def Obligations.LineTestEndSetsLineState : Prop :=
  ∀ (s : State) (u : TestRun) (hi lo : Nat), s.quiet = true → s.scan.under = some u → u.timer = 0 →
    hi = s.nominalLoad u.zone * (100 + s.tolerance u.zone) / 100 →
    lo = s.nominalLoad u.zone * (100 - s.tolerance u.zone) / 100 →
    ∀ trips : Prop,
    (trips ↔ s.isolates u.zone = true ∧ s.zones[u.zone].trip = .none ∧ ∃ v, u.load = some v ∧ v ≤ hi ∧ v < lo) →
    (trips → s.plainTrip u.zone) →
    ∃ t, exec .lineTestEnd s = .next t ∧
      (∀ y, y ≠ u.zone → t.zones[y] = s.zones[y]) ∧
      (s.zones[u.zone].trip ≠ .none → t.zones[u.zone] =
        (match u.load with
          | some v => if v ≤ hi ∧ v < lo then { s.zones[u.zone] with line := .shortLine } else s.zones[u.zone]
          | none => s.zones[u.zone])) ∧
      (s.zones[u.zone].trip = .none → u.load = none → s.zones[u.zone].noReport < 2 →
        t.zones[u.zone] = { s.zones[u.zone] with noReport := s.zones[u.zone].noReport + 1 }) ∧
      (s.zones[u.zone].trip = .none → u.load = none → 2 ≤ s.zones[u.zone].noReport →
        t.zones[u.zone] = { s.zones[u.zone] with noReport := 3, line := .noReport }) ∧
      (∀ v, s.zones[u.zone].trip = .none → u.load = some v → hi < v →
        t.zones[u.zone] = { s.zones[u.zone] with noReport := 0, line := .openLine }) ∧
      (∀ v, s.zones[u.zone].trip = .none → u.load = some v → v ≤ hi → lo ≤ v →
        t.zones[u.zone] = { s.zones[u.zone] with noReport := 0, line := .normal }) ∧
      (∀ v, s.zones[u.zone].trip = .none → u.load = some v → v ≤ hi → v < lo → s.isolates u.zone = false →
        t.zones[u.zone] = { s.zones[u.zone] with noReport := 0, line := .shortLine }) ∧
      (∀ v, u.load = some v → v ≤ hi → v < lo → s.isolates u.zone = true → s.zones[u.zone].trip = .none →
        t.zones[u.zone] = s.trippedZone u.zone { s.zones[u.zone] with noReport := 0, line := .shortLine } .isolated) ∧
      (¬trips → t.recs = s.recs) ∧
      (trips → ∀ h : Handle, t.recs[h] = (s.recs[h]).map (s.afterTrip u.zone h)) ∧
      t = { s with zones := t.zones, recs := t.recs, scan := t.scan, mp := { s.mp with changes := t.mp.changes } }

/-! ### Playout -/

/-- A grant on an IDLE port with a channel requesting: the port is BUSY with the burst of a requesting channel whose
record is the most urgent among the requesting channels and, among equally urgent ones, comes first after the last
granted channel, wrapping from 5 to 0; the read command and the 24-bit address are driven; the channel's fetch fields
move past the burst; nothing else changes (R92, R93, R94). That the address then stands past the
range R92 gives it, where the phrase ends at the top of a 16 MiB store, is the model's choice (log entry 52). -/
def Obligations.BurstGrantServesMostUrgent : Prop :=
  ∀ (s : State) (j : ChanId), s.quiet = true → s.port.busy = none → (s.chans[j]).requests = true →
    (∀ k : ChanId, (s.chans[k]).requests = true → (s.chans[k]).bound.isSome = true) →
    ∃ (k : ChanId) (b : Bound) (d : DirEntry) (a f m samples octets : Nat), (s.chans[k]).requests = true ∧
      (s.chans[k]).bound = some b ∧ (s.chans[k]).cur = .phrase d a f m ∧
      (∀ (i : ChanId) (o : Bound), (s.chans[i]).requests = true → (s.chans[i]).bound = some o →
        b.cls.rank < o.cls.rank ∨ (b.cls.rank = o.cls.rank ∧
          (k.val + 5 - s.port.lastGranted.val) % 6 ≤ (i.val + 5 - s.port.lastGranted.val) % 6)) ∧
      samples = (match d.encoding with | .linear16 => min 64 f | .compressed8 => min 128 f) ∧
      octets = (match d.encoding with | .linear16 => 2 * samples | .compressed8 => samples) ∧
      exec .burstGrant s = .next { s with
        chans := s.chans.set k.val
          { s.chans[k] with inFlight := true, cur := .phrase d (a + octets) (f - samples) m } k.isLt
        port := { s.port with
          busy := some ⟨k, a, octets, samples, false⟩, lastGranted := k
          sent := [0x03, BitVec.ofNat 8 (a / 65536), BitVec.ofNat 8 (a / 256), BitVec.ofNat 8 a] } }

/-- A burst completes: the port is IDLE, its last granted channel 5 where a soft reset found the burst in flight and
unchanged otherwise; a void burst, or one that finds no phrase under way, adds no sample to any FIFO; any other one puts
its samples at the tail of its channel's FIFO, linear16 pairs low octet first and compressed8 octets through the
expansion table, and a LOADING channel that now holds its prefill, the lesser of 128 and the element's length, is
RUNNING, with the start report of element 0 where one is due: the start set becomes the live zones, those apart that R9,
R20, R21 and R55 say cannot be covered. The port, IDLE again, is then granted as by BURST_GRANT
(R57, R76, R82, R91, R94, R95, R96). That R57 gives way to those four there is the model's reading (log entries 50 and
51). -/
def Obligations.BurstCompleteFillsFifo : Prop :=
  ∀ (s : State) (b : Burst) (octets : List Byte), s.quiet = true → s.port.busy = some b → octets.length = b.octets →
    ∃ u t, exec (.burstComplete octets) s = .next t ∧ exec .burstGrant u = .next t ∧
      u.port = { s.port with
        busy := none, lastGranted := if s.port.afterReset = true then 5 else s.port.lastGranted, afterReset := false } ∧
      (∀ k, k ≠ b.chan → u.chans[k] = s.chans[k]) ∧
      ((b.void = true ∨ ∀ d a f m, (s.chans[b.chan]).cur ≠ .phrase d a f m) →
        u.chans[b.chan] = { s.chans[b.chan] with inFlight := false } ∧ u.recs = s.recs) ∧
      (∀ (d : DirEntry) (a f m : Nat) (fifo : List Word) (full : Bool), b.void = false →
        (s.chans[b.chan]).cur = .phrase d a f m →
        fifo = (s.chans[b.chan]).fifo ++
          (match d.encoding with
            | .linear16 => (List.range (octets.length / 2)).map fun i =>
                BitVec.ofNat 16 (octet octets (2 * i) + octet octets (2 * i + 1) * 256)
            | .compressed8 => octets.map fun o => readWord s.mp.params (0x2000 + o.toNat)) →
        full = (decide ((s.chans[b.chan]).state = .loading) && decide (min 128 d.length ≤ fifo.length)) →
        u.chans[b.chan] = { s.chans[b.chan] with
          inFlight := false, fifo := fifo
          state := if full = true then .running else (s.chans[b.chan]).state
          startArmed := if full = true then false else (s.chans[b.chan]).startArmed } ∧
        ((full = false ∨ (s.chans[b.chan]).startArmed = false) → u.recs = s.recs) ∧
        (∀ (h : Handle) (x : Rec), full = true → (s.chans[b.chan]).startArmed = true →
          (s.chans[b.chan]).bound.map Bound.ref = some ⟨h, x.seq⟩ → s.recs[h] = some x →
          u.recs = s.recs.set h.val
            (some (if x.isAnnouncement = true then { x with start := x.live &&& ~~~(x.barred ||| x.late) } else x))
              h.isLt)) ∧
      u = { s with recs := u.recs, chans := u.chans, port := u.port }

/-- At the end of an element that is not the last, the channel begins the next: its index and its record's rise by 1; a
gap of n runs n * 160 frame events; a phrase that may be played is LOADING with its directory entry captured. The
record is a PLAYING announcement. Where it is live in its whole effective set and no claim or reservation waits for the
boundary, nothing else changes. A pending claim on one of its zones matures: the record is pushed on the zone's stack,
loses the zone and counts it as detached, and the claimant, a page or a PLAYING record, owns the zone and gains it;
where that was the record's one live zone, the record PAUSES and its channel with it, the element just begun abandoned
(log entry 33). A reservation takes its zone: the record owns it, and the zone enters its live set (R10, R12, R17, R56,
R68, R74, R81, R85, R87). -/
def Obligations.ElementEndBeginsNext : Prop :=
  ∀ (s : State) (k : ChanId) (h : Handle) (x : Rec) (e : Resolved) (next : Channel), s.quiet = true →
    (s.chans[k]).ended = true → s.recs[h] = some x → (s.chans[k]).bound.map Bound.ref = some ⟨h, x.seq⟩ →
    x.state = .playing → x.isAnnouncement = true → x.list[(s.chans[k]).index + 1]? = some e →
    (match e.what with | .gap _ => true | .phrase id => entryPlays s.storeSize (s.dirEntry id)) = true →
    next = { s.chans[k] with
      index := (s.chans[k]).index + 1
      state := match e.what with | .gap _ => .running | .phrase _ => .loading
      cur := match e.what with
        | .gap n => .gap (n * 160)
        | .phrase id => .phrase (s.dirEntry id) (s.dirEntry id).start (s.dirEntry id).length (s.dirEntry id).length
      fifo := []
      startArmed := false } →
    (x.live = x.effective → (∀ (z : ZoneId) p, s.zones[z].own ≠ .owned ⟨h, x.seq⟩ (some p)) →
      (∀ z : ZoneId, s.zones[z].own ≠ .reserved ⟨h, x.seq⟩) →
      exec (.elementEnd k) s = .next { s with
        recs := s.recs.set h.val (some { x with index := (s.chans[k]).index + 1 }) h.isLt
        chans := s.chans.set k.val next k.isLt }) ∧
    (∀ (z : ZoneId) (g : Handle) (y : Rec), x.live = x.effective → withoutZone x.live z ≠ 0 → g ≠ h →
      s.recs[g] = some y → (y.state = .live ∨ y.state = .playing) → s.underTest z = false →
      s.zones[z].own = .owned ⟨h, x.seq⟩ (some ⟨g, y.seq⟩) →
      (∀ (a : ZoneId) p, a ≠ z → s.zones[a].own ≠ .owned ⟨h, x.seq⟩ (some p)) →
      (∀ a : ZoneId, s.zones[a].own ≠ .reserved ⟨h, x.seq⟩) →
      exec (.elementEnd k) s = .next { s with
        recs := (s.recs.set h.val (some
          { x with
            index := (s.chans[k]).index + 1, live := withoutZone x.live z, start := withoutZone x.start z
            detached := withZone x.detached z &&& x.effective }) h.isLt).set g.val (some
          { y with live := withZone y.live z, detached := withoutZone y.detached z }) g.isLt
        zones := s.zones.set z.val
          { s.zones[z] with
            own := .owned ⟨g, y.seq⟩ none
            stack := ⟨h, x.seq⟩ :: ((s.zones[z].stack.filter fun r => decide (r ≠ ⟨g, y.seq⟩)).filter fun r =>
              decide (r.handle ≠ h)).take 2 } z.isLt
        chans := s.chans.set k.val next k.isLt }) ∧
    (∀ (z : ZoneId) (g : Handle) (y : Rec), x.live = x.effective → x.live = withZone 0 z → x.channel = some k →
      (s.chans[k]).inFlight = false → e.what ≠ .gap 0 → g ≠ h → s.recs[g] = some y →
      (y.state = .live ∨ y.state = .playing) → s.underTest z = false →
      s.zones[z].own = .owned ⟨h, x.seq⟩ (some ⟨g, y.seq⟩) →
      (∀ (a : ZoneId) p, a ≠ z → s.zones[a].own ≠ .owned ⟨h, x.seq⟩ (some p)) →
      (∀ a : ZoneId, s.zones[a].own ≠ .reserved ⟨h, x.seq⟩) →
      exec (.elementEnd k) s = .next { s with
        recs := (s.recs.set h.val (some
          { x with
            state := .paused, index := (s.chans[k]).index + 1, live := 0, start := withoutZone x.start z
            detached := withZone x.detached z &&& x.effective }) h.isLt).set g.val (some
          { y with live := withZone y.live z, detached := withoutZone y.detached z }) g.isLt
        zones := s.zones.set z.val
          { s.zones[z] with
            own := .owned ⟨g, y.seq⟩ none
            stack := ⟨h, x.seq⟩ :: ((s.zones[z].stack.filter fun r => decide (r ≠ ⟨g, y.seq⟩)).filter fun r =>
              decide (r.handle ≠ h)).take 2 } z.isLt
        chans := s.chans.set k.val { next with state := .paused, cur := .none } k.isLt }) ∧
    (∀ z : ZoneId, withZone x.live z = x.effective → s.underTest z = false →
      s.zones[z].own = .reserved ⟨h, x.seq⟩ → (∀ a : ZoneId, a ≠ z → s.zones[a].own ≠ .reserved ⟨h, x.seq⟩) →
      (∀ (a : ZoneId) p, s.zones[a].own ≠ .owned ⟨h, x.seq⟩ (some p)) →
      ∃ t, exec (.elementEnd k) s = .next t ∧ t = { s with
        recs := s.recs.set h.val (some
          { x with
            index := (s.chans[k]).index + 1, live := withZone x.live z, detached := withoutZone x.detached z }) h.isLt
        zones := s.zones.set z.val { s.zones[z] with own := .owned ⟨h, x.seq⟩ none } z.isLt
        chans := s.chans.set k.val next k.isLt
        mp := { s.mp with changes := t.mp.changes } })

/-! ### Notices -/

/-- MP builds a notice into a free place: first the ANN_DONE of the oldest finished record, whose handle is freed; then
a CHANGE notice of the up to 8 lowest items of the pending set, which leave it (R63, R187, R188, R190). Every notice is
broadcast with tag 0. -/
def Obligations.AnnDoneAndChangeBuilt : Prop :=
  ∀ s : State, s.quiet = true → s.mp.resetting = false → s.mp.requests = [] → s.mp.outbound.length + s.mp.reserved < 16 →
    (∀ (h : Handle) (rest : List Handle) (x : Rec), s.mp.finished = h :: rest → s.recs[h] = some x →
      exec .annDoneBuild s = .next { s with
        recs := s.recs.set h.val none h.isLt
        mp := { s.mp with
          finished := rest
          outbound := s.mp.outbound ++ [message 0xFF s.ti.address 0x81 0 (annDonePayload h x)] } }) ∧
    (s.mp.finished = [] → s.mp.changes ≠ [] →
      exec .changeBuild s = .next { s with
        mp := { s.mp with
          changes := s.mp.changes.drop 8
          outbound := s.mp.outbound ++ [message 0xFF s.ti.address 0x82 0 (changePayload (s.mp.changes.take 8))] } })

/-- A CALL notice is built, after every ANN_DONE and CHANGE notice, for the call record of the lowest-numbered slot
whose notice-pending flag is set, with the items of R102; the flag is cleared, and a record due for retirement, found
so at the latest second event and still so (the model's reading, log entry 17), is freed. A CALL_DELETE of a call
without an announcement in force frees its record without a notice (R191). -/
def Obligations.CallNoticeBuilt : Prop :=
  ∀ (s : State) (i : CallSlot) (c : Call), s.quiet = true → s.calls[i] = some c → c.noticePending = true →
    (s.mp.resetting = false → s.mp.requests = [] → s.mp.outbound.length + s.mp.reserved < 16 → s.mp.finished = [] →
      s.mp.changes = [] → (∀ (j : CallSlot) d, j < i → s.calls[j] = some d → d.noticePending = false) →
      exec .callNoticeBuild s = .next { s with
        calls := s.calls.set i.val
          (if (c.foundDue && s.clock.valid && (match c.retire with
              | some r => decide (r ≤ s.clock.day * 86400 + s.clock.second)
              | none => false)) = true then none
          else some { c with noticePending := false }) i.isLt
        mp := { s.mp with
          outbound := s.mp.outbound ++ [message 0xFF s.ti.address 0x83 0 (put2 c.id ++ put1 i.val ++ put1 c.kind.code ++
            put1 c.state.code ++ put1 ((if c.late = true then 1 else 0) + (if c.cancelled = true then 2 else 0) +
              (if c.changed = true then 4 else 0) + (if c.arrived = true then 8 else 0) +
              (if c.departed = true then 16 else 0)) ++
            (List.finRange 6).flatMap fun t =>
              put1 (c.trigs[t]).state.code ++ put1 (match (c.trigs[t]).handle with | some h => h.val | none => 0xFF))] } }) ∧
    (∀ q, s.offers q → q.type.toNat = TypeCode.callDelete → q.payload = put2 c.id → c.id < 65536 →
      s.findCall c.id = some i →
      (∀ (h : Handle) x, s.recs[h] = some x → announcementOf c.id x = true → x.unfinished = false) →
      exec .callDelete s = .next { s.answered q ResultCode.ok [] with calls := s.calls.set i.val none i.isLt })

end
end

