-- ==== Sys2Proof/Laws/State.lean ====
section
/-! SUPPORT. What each named operation leaves as it was, field by field: an operation that writes one part of the
state leaves every other part alone. Operations that may note a CHANGE item (R189) also write the pending set. -/

namespace Sys2Proof.Machine


/-! ### push -/

@[simp] theorem State.push_pinHeld (s : State) (ts : List Task) : (s.push ts).pinHeld = s.pinHeld := rfl
@[simp] theorem State.push_ti (s : State) (ts : List Task) : (s.push ts).ti = s.ti := rfl
@[simp] theorem State.push_mp (s : State) (ts : List Task) : (s.push ts).mp = s.mp := rfl
@[simp] theorem State.push_zones (s : State) (ts : List Task) : (s.push ts).zones = s.zones := rfl
@[simp] theorem State.push_scan (s : State) (ts : List Task) : (s.push ts).scan = s.scan := rfl
@[simp] theorem State.push_recs (s : State) (ts : List Task) : (s.push ts).recs = s.recs := rfl
@[simp] theorem State.push_seqCounter (s : State) (ts : List Task) : (s.push ts).seqCounter = s.seqCounter := rfl
@[simp] theorem State.push_passDue (s : State) (ts : List Task) : (s.push ts).passDue = s.passDue := rfl
@[simp] theorem State.push_chans (s : State) (ts : List Task) : (s.push ts).chans = s.chans := rfl
@[simp] theorem State.push_port (s : State) (ts : List Task) : (s.push ts).port = s.port := rfl
@[simp] theorem State.push_skipped (s : State) (ts : List Task) : (s.push ts).skipped = s.skipped := rfl
@[simp] theorem State.push_calls (s : State) (ts : List Task) : (s.push ts).calls = s.calls := rfl
@[simp] theorem State.push_clock (s : State) (ts : List Task) : (s.push ts).clock = s.clock := rfl
@[simp] theorem State.push_framesSent (s : State) (ts : List Task) : (s.push ts).framesSent = s.framesSent := rfl
@[simp] theorem State.push_owed (s : State) (ts : List Task) : (s.push ts).owed = s.owed := rfl
@[simp] theorem State.push_pending (s : State) (ts : List Task) : (s.push ts).pending = s.pending := rfl

/-! ### notePass -/

@[simp] theorem State.notePass_pinHeld (s : State) : (s.notePass).pinHeld = s.pinHeld := rfl
@[simp] theorem State.notePass_ti (s : State) : (s.notePass).ti = s.ti := rfl
@[simp] theorem State.notePass_mp (s : State) : (s.notePass).mp = s.mp := rfl
@[simp] theorem State.notePass_zones (s : State) : (s.notePass).zones = s.zones := rfl
@[simp] theorem State.notePass_scan (s : State) : (s.notePass).scan = s.scan := rfl
@[simp] theorem State.notePass_recs (s : State) : (s.notePass).recs = s.recs := rfl
@[simp] theorem State.notePass_seqCounter (s : State) : (s.notePass).seqCounter = s.seqCounter := rfl
@[simp] theorem State.notePass_chans (s : State) : (s.notePass).chans = s.chans := rfl
@[simp] theorem State.notePass_port (s : State) : (s.notePass).port = s.port := rfl
@[simp] theorem State.notePass_skipped (s : State) : (s.notePass).skipped = s.skipped := rfl
@[simp] theorem State.notePass_calls (s : State) : (s.notePass).calls = s.calls := rfl
@[simp] theorem State.notePass_clock (s : State) : (s.notePass).clock = s.clock := rfl
@[simp] theorem State.notePass_framesSent (s : State) : (s.notePass).framesSent = s.framesSent := rfl
@[simp] theorem State.notePass_owed (s : State) : (s.notePass).owed = s.owed := rfl
@[simp] theorem State.notePass_work (s : State) : (s.notePass).work = s.work := rfl
@[simp] theorem State.notePass_pending (s : State) : (s.notePass).pending = s.pending := rfl

/-! ### setRec -/

@[simp] theorem State.setRec_pinHeld (s : State) (h : Handle) (x : Option Rec) : (s.setRec h x).pinHeld = s.pinHeld := rfl
@[simp] theorem State.setRec_ti (s : State) (h : Handle) (x : Option Rec) : (s.setRec h x).ti = s.ti := rfl
@[simp] theorem State.setRec_mp (s : State) (h : Handle) (x : Option Rec) : (s.setRec h x).mp = s.mp := rfl
@[simp] theorem State.setRec_zones (s : State) (h : Handle) (x : Option Rec) : (s.setRec h x).zones = s.zones := rfl
@[simp] theorem State.setRec_scan (s : State) (h : Handle) (x : Option Rec) : (s.setRec h x).scan = s.scan := rfl
@[simp] theorem State.setRec_seqCounter (s : State) (h : Handle) (x : Option Rec) : (s.setRec h x).seqCounter = s.seqCounter := rfl
@[simp] theorem State.setRec_passDue (s : State) (h : Handle) (x : Option Rec) : (s.setRec h x).passDue = s.passDue := rfl
@[simp] theorem State.setRec_chans (s : State) (h : Handle) (x : Option Rec) : (s.setRec h x).chans = s.chans := rfl
@[simp] theorem State.setRec_port (s : State) (h : Handle) (x : Option Rec) : (s.setRec h x).port = s.port := rfl
@[simp] theorem State.setRec_skipped (s : State) (h : Handle) (x : Option Rec) : (s.setRec h x).skipped = s.skipped := rfl
@[simp] theorem State.setRec_calls (s : State) (h : Handle) (x : Option Rec) : (s.setRec h x).calls = s.calls := rfl
@[simp] theorem State.setRec_clock (s : State) (h : Handle) (x : Option Rec) : (s.setRec h x).clock = s.clock := rfl
@[simp] theorem State.setRec_framesSent (s : State) (h : Handle) (x : Option Rec) : (s.setRec h x).framesSent = s.framesSent := rfl
@[simp] theorem State.setRec_owed (s : State) (h : Handle) (x : Option Rec) : (s.setRec h x).owed = s.owed := rfl
@[simp] theorem State.setRec_work (s : State) (h : Handle) (x : Option Rec) : (s.setRec h x).work = s.work := rfl
@[simp] theorem State.setRec_pending (s : State) (h : Handle) (x : Option Rec) : (s.setRec h x).pending = s.pending := rfl

/-! ### modRecs -/

@[simp] theorem State.modRecs_pinHeld (s : State) (p : Rec → Bool) (f : Rec → Rec) : (s.modRecs p f).pinHeld = s.pinHeld := rfl
@[simp] theorem State.modRecs_ti (s : State) (p : Rec → Bool) (f : Rec → Rec) : (s.modRecs p f).ti = s.ti := rfl
@[simp] theorem State.modRecs_mp (s : State) (p : Rec → Bool) (f : Rec → Rec) : (s.modRecs p f).mp = s.mp := rfl
@[simp] theorem State.modRecs_zones (s : State) (p : Rec → Bool) (f : Rec → Rec) : (s.modRecs p f).zones = s.zones := rfl
@[simp] theorem State.modRecs_scan (s : State) (p : Rec → Bool) (f : Rec → Rec) : (s.modRecs p f).scan = s.scan := rfl
@[simp] theorem State.modRecs_seqCounter (s : State) (p : Rec → Bool) (f : Rec → Rec) : (s.modRecs p f).seqCounter = s.seqCounter := rfl
@[simp] theorem State.modRecs_passDue (s : State) (p : Rec → Bool) (f : Rec → Rec) : (s.modRecs p f).passDue = s.passDue := rfl
@[simp] theorem State.modRecs_chans (s : State) (p : Rec → Bool) (f : Rec → Rec) : (s.modRecs p f).chans = s.chans := rfl
@[simp] theorem State.modRecs_port (s : State) (p : Rec → Bool) (f : Rec → Rec) : (s.modRecs p f).port = s.port := rfl
@[simp] theorem State.modRecs_skipped (s : State) (p : Rec → Bool) (f : Rec → Rec) : (s.modRecs p f).skipped = s.skipped := rfl
@[simp] theorem State.modRecs_calls (s : State) (p : Rec → Bool) (f : Rec → Rec) : (s.modRecs p f).calls = s.calls := rfl
@[simp] theorem State.modRecs_clock (s : State) (p : Rec → Bool) (f : Rec → Rec) : (s.modRecs p f).clock = s.clock := rfl
@[simp] theorem State.modRecs_framesSent (s : State) (p : Rec → Bool) (f : Rec → Rec) : (s.modRecs p f).framesSent = s.framesSent := rfl
@[simp] theorem State.modRecs_owed (s : State) (p : Rec → Bool) (f : Rec → Rec) : (s.modRecs p f).owed = s.owed := rfl
@[simp] theorem State.modRecs_work (s : State) (p : Rec → Bool) (f : Rec → Rec) : (s.modRecs p f).work = s.work := rfl
@[simp] theorem State.modRecs_pending (s : State) (p : Rec → Bool) (f : Rec → Rec) : (s.modRecs p f).pending = s.pending := rfl

/-- What a change of every record for which a test holds leaves under a handle. -/
@[simp] theorem changeRecs_get (p : Rec → Bool) (f : Rec → Rec) (v : Vector (Option Rec) 64) (h : Handle) :
    (changeRecs p f v)[h] = (v[h]).map fun x => if p x then f x else x := by
  simp [changeRecs]

@[simp] theorem State.modRecs_recs (s : State) (p : Rec → Bool) (f : Rec → Rec) :
    (s.modRecs p f).recs = changeRecs p f s.recs := rfl

/-- Where no record passes the test, nothing changes. -/
theorem changeRecs_none {p : Rec → Bool} (f : Rec → Rec) {v : Vector (Option Rec) 64}
    (n : ∀ (h : Handle) x, v[h] = some x → p x = false) : changeRecs p f v = v := by
  refine Vector.ext fun i hi => ?_
  show (changeRecs p f v)[(⟨i, hi⟩ : Handle)] = v[(⟨i, hi⟩ : Handle)]
  rw [changeRecs_get]
  cases w : v[(⟨i, hi⟩ : Handle)] with
  | none => rfl
  | some y => simp [n _ y w]

theorem State.modRecs_none {s : State} {p : Rec → Bool} (f : Rec → Rec)
    (n : ∀ (h : Handle) x, s.recs[h] = some x → p x = false) : s.modRecs p f = s := by
  rw [State.modRecs, changeRecs_none f n]

/-! ### setChan -/

@[simp] theorem State.setChan_pinHeld (s : State) (k : ChanId) (c : Channel) : (s.setChan k c).pinHeld = s.pinHeld := rfl
@[simp] theorem State.setChan_ti (s : State) (k : ChanId) (c : Channel) : (s.setChan k c).ti = s.ti := rfl
@[simp] theorem State.setChan_mp (s : State) (k : ChanId) (c : Channel) : (s.setChan k c).mp = s.mp := rfl
@[simp] theorem State.setChan_zones (s : State) (k : ChanId) (c : Channel) : (s.setChan k c).zones = s.zones := rfl
@[simp] theorem State.setChan_scan (s : State) (k : ChanId) (c : Channel) : (s.setChan k c).scan = s.scan := rfl
@[simp] theorem State.setChan_recs (s : State) (k : ChanId) (c : Channel) : (s.setChan k c).recs = s.recs := rfl
@[simp] theorem State.setChan_seqCounter (s : State) (k : ChanId) (c : Channel) : (s.setChan k c).seqCounter = s.seqCounter := rfl
@[simp] theorem State.setChan_passDue (s : State) (k : ChanId) (c : Channel) : (s.setChan k c).passDue = s.passDue := rfl
@[simp] theorem State.setChan_port (s : State) (k : ChanId) (c : Channel) : (s.setChan k c).port = s.port := rfl
@[simp] theorem State.setChan_skipped (s : State) (k : ChanId) (c : Channel) : (s.setChan k c).skipped = s.skipped := rfl
@[simp] theorem State.setChan_calls (s : State) (k : ChanId) (c : Channel) : (s.setChan k c).calls = s.calls := rfl
@[simp] theorem State.setChan_clock (s : State) (k : ChanId) (c : Channel) : (s.setChan k c).clock = s.clock := rfl
@[simp] theorem State.setChan_framesSent (s : State) (k : ChanId) (c : Channel) : (s.setChan k c).framesSent = s.framesSent := rfl
@[simp] theorem State.setChan_owed (s : State) (k : ChanId) (c : Channel) : (s.setChan k c).owed = s.owed := rfl
@[simp] theorem State.setChan_work (s : State) (k : ChanId) (c : Channel) : (s.setChan k c).work = s.work := rfl
@[simp] theorem State.setChan_pending (s : State) (k : ChanId) (c : Channel) : (s.setChan k c).pending = s.pending := rfl

/-! ### modChan -/

@[simp] theorem State.modChan_pinHeld (s : State) (k : ChanId) (f : Channel → Channel) : (s.modChan k f).pinHeld = s.pinHeld := rfl
@[simp] theorem State.modChan_ti (s : State) (k : ChanId) (f : Channel → Channel) : (s.modChan k f).ti = s.ti := rfl
@[simp] theorem State.modChan_mp (s : State) (k : ChanId) (f : Channel → Channel) : (s.modChan k f).mp = s.mp := rfl
@[simp] theorem State.modChan_zones (s : State) (k : ChanId) (f : Channel → Channel) : (s.modChan k f).zones = s.zones := rfl
@[simp] theorem State.modChan_scan (s : State) (k : ChanId) (f : Channel → Channel) : (s.modChan k f).scan = s.scan := rfl
@[simp] theorem State.modChan_recs (s : State) (k : ChanId) (f : Channel → Channel) : (s.modChan k f).recs = s.recs := rfl
@[simp] theorem State.modChan_seqCounter (s : State) (k : ChanId) (f : Channel → Channel) : (s.modChan k f).seqCounter = s.seqCounter := rfl
@[simp] theorem State.modChan_passDue (s : State) (k : ChanId) (f : Channel → Channel) : (s.modChan k f).passDue = s.passDue := rfl
@[simp] theorem State.modChan_port (s : State) (k : ChanId) (f : Channel → Channel) : (s.modChan k f).port = s.port := rfl
@[simp] theorem State.modChan_skipped (s : State) (k : ChanId) (f : Channel → Channel) : (s.modChan k f).skipped = s.skipped := rfl
@[simp] theorem State.modChan_calls (s : State) (k : ChanId) (f : Channel → Channel) : (s.modChan k f).calls = s.calls := rfl
@[simp] theorem State.modChan_clock (s : State) (k : ChanId) (f : Channel → Channel) : (s.modChan k f).clock = s.clock := rfl
@[simp] theorem State.modChan_framesSent (s : State) (k : ChanId) (f : Channel → Channel) : (s.modChan k f).framesSent = s.framesSent := rfl
@[simp] theorem State.modChan_owed (s : State) (k : ChanId) (f : Channel → Channel) : (s.modChan k f).owed = s.owed := rfl
@[simp] theorem State.modChan_work (s : State) (k : ChanId) (f : Channel → Channel) : (s.modChan k f).work = s.work := rfl
@[simp] theorem State.modChan_pending (s : State) (k : ChanId) (f : Channel → Channel) : (s.modChan k f).pending = s.pending := rfl

/-! ### setCall -/

@[simp] theorem State.setCall_pinHeld (s : State) (i : CallSlot) (c : Option Call) : (s.setCall i c).pinHeld = s.pinHeld := rfl
@[simp] theorem State.setCall_ti (s : State) (i : CallSlot) (c : Option Call) : (s.setCall i c).ti = s.ti := rfl
@[simp] theorem State.setCall_mp (s : State) (i : CallSlot) (c : Option Call) : (s.setCall i c).mp = s.mp := rfl
@[simp] theorem State.setCall_zones (s : State) (i : CallSlot) (c : Option Call) : (s.setCall i c).zones = s.zones := rfl
@[simp] theorem State.setCall_scan (s : State) (i : CallSlot) (c : Option Call) : (s.setCall i c).scan = s.scan := rfl
@[simp] theorem State.setCall_recs (s : State) (i : CallSlot) (c : Option Call) : (s.setCall i c).recs = s.recs := rfl
@[simp] theorem State.setCall_seqCounter (s : State) (i : CallSlot) (c : Option Call) : (s.setCall i c).seqCounter = s.seqCounter := rfl
@[simp] theorem State.setCall_passDue (s : State) (i : CallSlot) (c : Option Call) : (s.setCall i c).passDue = s.passDue := rfl
@[simp] theorem State.setCall_chans (s : State) (i : CallSlot) (c : Option Call) : (s.setCall i c).chans = s.chans := rfl
@[simp] theorem State.setCall_port (s : State) (i : CallSlot) (c : Option Call) : (s.setCall i c).port = s.port := rfl
@[simp] theorem State.setCall_skipped (s : State) (i : CallSlot) (c : Option Call) : (s.setCall i c).skipped = s.skipped := rfl
@[simp] theorem State.setCall_clock (s : State) (i : CallSlot) (c : Option Call) : (s.setCall i c).clock = s.clock := rfl
@[simp] theorem State.setCall_framesSent (s : State) (i : CallSlot) (c : Option Call) : (s.setCall i c).framesSent = s.framesSent := rfl
@[simp] theorem State.setCall_owed (s : State) (i : CallSlot) (c : Option Call) : (s.setCall i c).owed = s.owed := rfl
@[simp] theorem State.setCall_work (s : State) (i : CallSlot) (c : Option Call) : (s.setCall i c).work = s.work := rfl
@[simp] theorem State.setCall_pending (s : State) (i : CallSlot) (c : Option Call) : (s.setCall i c).pending = s.pending := rfl

/-! ### setScan -/

@[simp] theorem State.setScan_pinHeld (s : State) (x : Scan) : (s.setScan x).pinHeld = s.pinHeld := rfl
@[simp] theorem State.setScan_ti (s : State) (x : Scan) : (s.setScan x).ti = s.ti := rfl
@[simp] theorem State.setScan_mp (s : State) (x : Scan) : (s.setScan x).mp = s.mp := rfl
@[simp] theorem State.setScan_zones (s : State) (x : Scan) : (s.setScan x).zones = s.zones := rfl
@[simp] theorem State.setScan_recs (s : State) (x : Scan) : (s.setScan x).recs = s.recs := rfl
@[simp] theorem State.setScan_seqCounter (s : State) (x : Scan) : (s.setScan x).seqCounter = s.seqCounter := rfl
@[simp] theorem State.setScan_passDue (s : State) (x : Scan) : (s.setScan x).passDue = s.passDue := rfl
@[simp] theorem State.setScan_chans (s : State) (x : Scan) : (s.setScan x).chans = s.chans := rfl
@[simp] theorem State.setScan_port (s : State) (x : Scan) : (s.setScan x).port = s.port := rfl
@[simp] theorem State.setScan_skipped (s : State) (x : Scan) : (s.setScan x).skipped = s.skipped := rfl
@[simp] theorem State.setScan_calls (s : State) (x : Scan) : (s.setScan x).calls = s.calls := rfl
@[simp] theorem State.setScan_clock (s : State) (x : Scan) : (s.setScan x).clock = s.clock := rfl
@[simp] theorem State.setScan_framesSent (s : State) (x : Scan) : (s.setScan x).framesSent = s.framesSent := rfl
@[simp] theorem State.setScan_owed (s : State) (x : Scan) : (s.setScan x).owed = s.owed := rfl
@[simp] theorem State.setScan_work (s : State) (x : Scan) : (s.setScan x).work = s.work := rfl
@[simp] theorem State.setScan_pending (s : State) (x : Scan) : (s.setScan x).pending = s.pending := rfl

/-! ### placeOut -/

@[simp] theorem State.placeOut_pinHeld (s : State) (m : List Byte) : (s.placeOut m).pinHeld = s.pinHeld := rfl
@[simp] theorem State.placeOut_ti (s : State) (m : List Byte) : (s.placeOut m).ti = s.ti := rfl
@[simp] theorem State.placeOut_zones (s : State) (m : List Byte) : (s.placeOut m).zones = s.zones := rfl
@[simp] theorem State.placeOut_scan (s : State) (m : List Byte) : (s.placeOut m).scan = s.scan := rfl
@[simp] theorem State.placeOut_recs (s : State) (m : List Byte) : (s.placeOut m).recs = s.recs := rfl
@[simp] theorem State.placeOut_seqCounter (s : State) (m : List Byte) : (s.placeOut m).seqCounter = s.seqCounter := rfl
@[simp] theorem State.placeOut_passDue (s : State) (m : List Byte) : (s.placeOut m).passDue = s.passDue := rfl
@[simp] theorem State.placeOut_chans (s : State) (m : List Byte) : (s.placeOut m).chans = s.chans := rfl
@[simp] theorem State.placeOut_port (s : State) (m : List Byte) : (s.placeOut m).port = s.port := rfl
@[simp] theorem State.placeOut_skipped (s : State) (m : List Byte) : (s.placeOut m).skipped = s.skipped := rfl
@[simp] theorem State.placeOut_calls (s : State) (m : List Byte) : (s.placeOut m).calls = s.calls := rfl
@[simp] theorem State.placeOut_clock (s : State) (m : List Byte) : (s.placeOut m).clock = s.clock := rfl
@[simp] theorem State.placeOut_framesSent (s : State) (m : List Byte) : (s.placeOut m).framesSent = s.framesSent := rfl
@[simp] theorem State.placeOut_owed (s : State) (m : List Byte) : (s.placeOut m).owed = s.owed := rfl
@[simp] theorem State.placeOut_work (s : State) (m : List Byte) : (s.placeOut m).work = s.work := rfl
@[simp] theorem State.placeOut_pending (s : State) (m : List Byte) : (s.placeOut m).pending = s.pending := rfl

/-! ### placeResult -/

@[simp] theorem State.placeResult_pinHeld (s : State) (q : Request) (code : Nat) (items : List Byte) : (s.placeResult q code items).pinHeld = s.pinHeld := rfl
@[simp] theorem State.placeResult_ti (s : State) (q : Request) (code : Nat) (items : List Byte) : (s.placeResult q code items).ti = s.ti := rfl
@[simp] theorem State.placeResult_zones (s : State) (q : Request) (code : Nat) (items : List Byte) : (s.placeResult q code items).zones = s.zones := rfl
@[simp] theorem State.placeResult_scan (s : State) (q : Request) (code : Nat) (items : List Byte) : (s.placeResult q code items).scan = s.scan := rfl
@[simp] theorem State.placeResult_recs (s : State) (q : Request) (code : Nat) (items : List Byte) : (s.placeResult q code items).recs = s.recs := rfl
@[simp] theorem State.placeResult_seqCounter (s : State) (q : Request) (code : Nat) (items : List Byte) : (s.placeResult q code items).seqCounter = s.seqCounter := rfl
@[simp] theorem State.placeResult_passDue (s : State) (q : Request) (code : Nat) (items : List Byte) : (s.placeResult q code items).passDue = s.passDue := rfl
@[simp] theorem State.placeResult_chans (s : State) (q : Request) (code : Nat) (items : List Byte) : (s.placeResult q code items).chans = s.chans := rfl
@[simp] theorem State.placeResult_port (s : State) (q : Request) (code : Nat) (items : List Byte) : (s.placeResult q code items).port = s.port := rfl
@[simp] theorem State.placeResult_skipped (s : State) (q : Request) (code : Nat) (items : List Byte) : (s.placeResult q code items).skipped = s.skipped := rfl
@[simp] theorem State.placeResult_calls (s : State) (q : Request) (code : Nat) (items : List Byte) : (s.placeResult q code items).calls = s.calls := rfl
@[simp] theorem State.placeResult_clock (s : State) (q : Request) (code : Nat) (items : List Byte) : (s.placeResult q code items).clock = s.clock := rfl
@[simp] theorem State.placeResult_framesSent (s : State) (q : Request) (code : Nat) (items : List Byte) : (s.placeResult q code items).framesSent = s.framesSent := rfl
@[simp] theorem State.placeResult_owed (s : State) (q : Request) (code : Nat) (items : List Byte) : (s.placeResult q code items).owed = s.owed := rfl
@[simp] theorem State.placeResult_work (s : State) (q : Request) (code : Nat) (items : List Byte) : (s.placeResult q code items).work = s.work := rfl
@[simp] theorem State.placeResult_pending (s : State) (q : Request) (code : Nat) (items : List Byte) : (s.placeResult q code items).pending = s.pending := rfl

@[simp] theorem State.push_work (s : State) (ts : List Task) : (s.push ts).work = ts ++ s.work := rfl
@[simp] theorem State.notePass_passDue (s : State) : s.notePass.passDue = true := rfl
@[simp] theorem State.setScan_scan (s : State) (x : Scan) : (s.setScan x).scan = x := rfl
@[simp] theorem State.setRec_recs (s : State) (h : Handle) (x : Option Rec) :
    (s.setRec h x).recs = s.recs.set h.val x h.isLt := rfl
@[simp] theorem State.setChan_chans (s : State) (k : ChanId) (c : Channel) :
    (s.setChan k c).chans = s.chans.set k.val c k.isLt := rfl
@[simp] theorem State.modChan_chans (s : State) (k : ChanId) (f : Channel → Channel) :
    (s.modChan k f).chans = s.chans.set k.val (f s.chans[k]) k.isLt := rfl
@[simp] theorem State.setCall_calls (s : State) (i : CallSlot) (c : Option Call) :
    (s.setCall i c).calls = s.calls.set i.val c i.isLt := rfl
@[simp] theorem State.placeOut_mp (s : State) (m : List Byte) :
    (s.placeOut m).mp = { s.mp with outbound := s.mp.outbound ++ [m] } := rfl
@[simp] theorem State.placeResult_mp (s : State) (q : Request) (code : Nat) (items : List Byte) :
    (s.placeResult q code items).mp = { s.mp with
      outbound := s.mp.outbound ++ [resultMessage s q code items], reserved := s.mp.reserved - 1 } := rfl

/-! ### noteItem -/

/-- Noting an item writes nothing but the pending set. -/
theorem State.noteItem_eq (s : State) (k old new : Nat) :
    s.noteItem k old new =
      { s with mp := { s.mp with changes := (s.noteItem k old new).mp.changes } } := by
  unfold State.noteItem
  split
  · rfl
  · split <;> rfl

@[simp] theorem State.noteItem_pinHeld (s : State) (k old new : Nat) : (s.noteItem k old new).pinHeld = s.pinHeld := by rw [noteItem_eq]
@[simp] theorem State.noteItem_ti (s : State) (k old new : Nat) : (s.noteItem k old new).ti = s.ti := by rw [noteItem_eq]
@[simp] theorem State.noteItem_zones (s : State) (k old new : Nat) : (s.noteItem k old new).zones = s.zones := by rw [noteItem_eq]
@[simp] theorem State.noteItem_scan (s : State) (k old new : Nat) : (s.noteItem k old new).scan = s.scan := by rw [noteItem_eq]
@[simp] theorem State.noteItem_recs (s : State) (k old new : Nat) : (s.noteItem k old new).recs = s.recs := by rw [noteItem_eq]
@[simp] theorem State.noteItem_seqCounter (s : State) (k old new : Nat) : (s.noteItem k old new).seqCounter = s.seqCounter := by rw [noteItem_eq]
@[simp] theorem State.noteItem_passDue (s : State) (k old new : Nat) : (s.noteItem k old new).passDue = s.passDue := by rw [noteItem_eq]
@[simp] theorem State.noteItem_chans (s : State) (k old new : Nat) : (s.noteItem k old new).chans = s.chans := by rw [noteItem_eq]
@[simp] theorem State.noteItem_port (s : State) (k old new : Nat) : (s.noteItem k old new).port = s.port := by rw [noteItem_eq]
@[simp] theorem State.noteItem_skipped (s : State) (k old new : Nat) : (s.noteItem k old new).skipped = s.skipped := by rw [noteItem_eq]
@[simp] theorem State.noteItem_calls (s : State) (k old new : Nat) : (s.noteItem k old new).calls = s.calls := by rw [noteItem_eq]
@[simp] theorem State.noteItem_clock (s : State) (k old new : Nat) : (s.noteItem k old new).clock = s.clock := by rw [noteItem_eq]
@[simp] theorem State.noteItem_framesSent (s : State) (k old new : Nat) : (s.noteItem k old new).framesSent = s.framesSent := by rw [noteItem_eq]
@[simp] theorem State.noteItem_owed (s : State) (k old new : Nat) : (s.noteItem k old new).owed = s.owed := by rw [noteItem_eq]
@[simp] theorem State.noteItem_work (s : State) (k old new : Nat) : (s.noteItem k old new).work = s.work := by rw [noteItem_eq]
@[simp] theorem State.noteItem_pending (s : State) (k old new : Nat) : (s.noteItem k old new).pending = s.pending := by rw [noteItem_eq]
@[simp] theorem State.noteItem_mp_requests (s : State) (k old new : Nat) : (s.noteItem k old new).mp.requests = s.mp.requests := by rw [noteItem_eq]
@[simp] theorem State.noteItem_mp_outbound (s : State) (k old new : Nat) : (s.noteItem k old new).mp.outbound = s.mp.outbound := by rw [noteItem_eq]
@[simp] theorem State.noteItem_mp_reserved (s : State) (k old new : Nat) : (s.noteItem k old new).mp.reserved = s.mp.reserved := by rw [noteItem_eq]
@[simp] theorem State.noteItem_mp_finished (s : State) (k old new : Nat) : (s.noteItem k old new).mp.finished = s.mp.finished := by rw [noteItem_eq]
@[simp] theorem State.noteItem_mp_params (s : State) (k old new : Nat) : (s.noteItem k old new).mp.params = s.mp.params := by rw [noteItem_eq]
@[simp] theorem State.noteItem_mp_device (s : State) (k old new : Nat) : (s.noteItem k old new).mp.device = s.mp.device := by rw [noteItem_eq]
@[simp] theorem State.noteItem_mp_prior (s : State) (k old new : Nat) : (s.noteItem k old new).mp.prior = s.mp.prior := by rw [noteItem_eq]
@[simp] theorem State.noteItem_mp_resetting (s : State) (k old new : Nat) : (s.noteItem k old new).mp.resetting = s.mp.resetting := by rw [noteItem_eq]
@[simp] theorem State.noteItem_mp_requestErrors (s : State) (k old new : Nat) : (s.noteItem k old new).mp.requestErrors = s.mp.requestErrors := by rw [noteItem_eq]
@[simp] theorem State.noteItem_mp_requestOverflows (s : State) (k old new : Nat) : (s.noteItem k old new).mp.requestOverflows = s.mp.requestOverflows := by rw [noteItem_eq]
@[simp] theorem State.noteItem_mp_downDiscards (s : State) (k old new : Nat) : (s.noteItem k old new).mp.downDiscards = s.mp.downDiscards := by rw [noteItem_eq]
@[simp] theorem State.noteItem_mp_upDiscards (s : State) (k old new : Nat) : (s.noteItem k old new).mp.upDiscards = s.mp.upDiscards := by rw [noteItem_eq]
@[simp] theorem State.noteItem_mp_downLosses (s : State) (k old new : Nat) : (s.noteItem k old new).mp.downLosses = s.mp.downLosses := by rw [noteItem_eq]
@[simp] theorem State.noteItem_mp_upLosses (s : State) (k old new : Nat) : (s.noteItem k old new).mp.upLosses = s.mp.upLosses := by rw [noteItem_eq]

/-- An item that did not change is not noted. -/
@[simp] theorem State.noteItem_same (s : State) (k v : Nat) : s.noteItem k v v = s := by simp [State.noteItem]

/-! ### setZone -/

/-- Writing a zone record writes the zone and, where an item changed, the pending set. -/
theorem State.setZone_eq (s : State) (z : ZoneId) (x : Zone) :
    s.setZone z x =
      { s with
        zones := s.zones.set z.val x z.isLt
        mp := { s.mp with changes := (s.setZone z x).mp.changes } } := by
  unfold State.setZone
  rw [noteItem_eq]
  simp only [noteItem_pinHeld, noteItem_mp_requests]
  repeat rw [noteItem_eq]

@[simp] theorem State.setZone_pinHeld (s : State) (z : ZoneId) (x : Zone) : (s.setZone z x).pinHeld = s.pinHeld := by rw [setZone_eq]
@[simp] theorem State.setZone_ti (s : State) (z : ZoneId) (x : Zone) : (s.setZone z x).ti = s.ti := by rw [setZone_eq]
@[simp] theorem State.setZone_scan (s : State) (z : ZoneId) (x : Zone) : (s.setZone z x).scan = s.scan := by rw [setZone_eq]
@[simp] theorem State.setZone_recs (s : State) (z : ZoneId) (x : Zone) : (s.setZone z x).recs = s.recs := by rw [setZone_eq]
@[simp] theorem State.setZone_seqCounter (s : State) (z : ZoneId) (x : Zone) : (s.setZone z x).seqCounter = s.seqCounter := by rw [setZone_eq]
@[simp] theorem State.setZone_passDue (s : State) (z : ZoneId) (x : Zone) : (s.setZone z x).passDue = s.passDue := by rw [setZone_eq]
@[simp] theorem State.setZone_chans (s : State) (z : ZoneId) (x : Zone) : (s.setZone z x).chans = s.chans := by rw [setZone_eq]
@[simp] theorem State.setZone_port (s : State) (z : ZoneId) (x : Zone) : (s.setZone z x).port = s.port := by rw [setZone_eq]
@[simp] theorem State.setZone_skipped (s : State) (z : ZoneId) (x : Zone) : (s.setZone z x).skipped = s.skipped := by rw [setZone_eq]
@[simp] theorem State.setZone_calls (s : State) (z : ZoneId) (x : Zone) : (s.setZone z x).calls = s.calls := by rw [setZone_eq]
@[simp] theorem State.setZone_clock (s : State) (z : ZoneId) (x : Zone) : (s.setZone z x).clock = s.clock := by rw [setZone_eq]
@[simp] theorem State.setZone_framesSent (s : State) (z : ZoneId) (x : Zone) : (s.setZone z x).framesSent = s.framesSent := by rw [setZone_eq]
@[simp] theorem State.setZone_owed (s : State) (z : ZoneId) (x : Zone) : (s.setZone z x).owed = s.owed := by rw [setZone_eq]
@[simp] theorem State.setZone_work (s : State) (z : ZoneId) (x : Zone) : (s.setZone z x).work = s.work := by rw [setZone_eq]
@[simp] theorem State.setZone_pending (s : State) (z : ZoneId) (x : Zone) : (s.setZone z x).pending = s.pending := by rw [setZone_eq]
@[simp] theorem State.setZone_mp_requests (s : State) (z : ZoneId) (x : Zone) : (s.setZone z x).mp.requests = s.mp.requests := by rw [setZone_eq]
@[simp] theorem State.setZone_mp_outbound (s : State) (z : ZoneId) (x : Zone) : (s.setZone z x).mp.outbound = s.mp.outbound := by rw [setZone_eq]
@[simp] theorem State.setZone_mp_reserved (s : State) (z : ZoneId) (x : Zone) : (s.setZone z x).mp.reserved = s.mp.reserved := by rw [setZone_eq]
@[simp] theorem State.setZone_mp_finished (s : State) (z : ZoneId) (x : Zone) : (s.setZone z x).mp.finished = s.mp.finished := by rw [setZone_eq]
@[simp] theorem State.setZone_mp_params (s : State) (z : ZoneId) (x : Zone) : (s.setZone z x).mp.params = s.mp.params := by rw [setZone_eq]
@[simp] theorem State.setZone_mp_device (s : State) (z : ZoneId) (x : Zone) : (s.setZone z x).mp.device = s.mp.device := by rw [setZone_eq]
@[simp] theorem State.setZone_mp_prior (s : State) (z : ZoneId) (x : Zone) : (s.setZone z x).mp.prior = s.mp.prior := by rw [setZone_eq]
@[simp] theorem State.setZone_mp_resetting (s : State) (z : ZoneId) (x : Zone) : (s.setZone z x).mp.resetting = s.mp.resetting := by rw [setZone_eq]
@[simp] theorem State.setZone_mp_requestErrors (s : State) (z : ZoneId) (x : Zone) : (s.setZone z x).mp.requestErrors = s.mp.requestErrors := by rw [setZone_eq]
@[simp] theorem State.setZone_mp_requestOverflows (s : State) (z : ZoneId) (x : Zone) : (s.setZone z x).mp.requestOverflows = s.mp.requestOverflows := by rw [setZone_eq]
@[simp] theorem State.setZone_mp_downDiscards (s : State) (z : ZoneId) (x : Zone) : (s.setZone z x).mp.downDiscards = s.mp.downDiscards := by rw [setZone_eq]
@[simp] theorem State.setZone_mp_upDiscards (s : State) (z : ZoneId) (x : Zone) : (s.setZone z x).mp.upDiscards = s.mp.upDiscards := by rw [setZone_eq]
@[simp] theorem State.setZone_mp_downLosses (s : State) (z : ZoneId) (x : Zone) : (s.setZone z x).mp.downLosses = s.mp.downLosses := by rw [setZone_eq]
@[simp] theorem State.setZone_mp_upLosses (s : State) (z : ZoneId) (x : Zone) : (s.setZone z x).mp.upLosses = s.mp.upLosses := by rw [setZone_eq]
@[simp] theorem State.setZone_zones (s : State) (z : ZoneId) (x : Zone) :
    (s.setZone z x).zones = s.zones.set z.val x z.isLt := by rw [setZone_eq]
/-- The written zone reads back. -/
@[simp] theorem State.setZone_same (s : State) (z : ZoneId) (x : Zone) : (s.setZone z x).zones[z] = x := by
  simp [State.setZone_zones]
/-- Every other zone is as it was. -/
theorem State.setZone_other (s : State) (z y : ZoneId) (x : Zone) (h : y ≠ z) : (s.setZone z x).zones[y] = s.zones[y] := by
  have h' : z.val ≠ y.val := fun e => h (Fin.ext e.symm)
  simp [State.setZone_zones, h']

/-! ### modZone -/

@[simp] theorem State.modZone_pinHeld (s : State) (z : ZoneId) (f : Zone → Zone) : (s.modZone z f).pinHeld = s.pinHeld := setZone_pinHeld ..
@[simp] theorem State.modZone_ti (s : State) (z : ZoneId) (f : Zone → Zone) : (s.modZone z f).ti = s.ti := setZone_ti ..
@[simp] theorem State.modZone_scan (s : State) (z : ZoneId) (f : Zone → Zone) : (s.modZone z f).scan = s.scan := setZone_scan ..
@[simp] theorem State.modZone_recs (s : State) (z : ZoneId) (f : Zone → Zone) : (s.modZone z f).recs = s.recs := setZone_recs ..
@[simp] theorem State.modZone_seqCounter (s : State) (z : ZoneId) (f : Zone → Zone) : (s.modZone z f).seqCounter = s.seqCounter := setZone_seqCounter ..
@[simp] theorem State.modZone_passDue (s : State) (z : ZoneId) (f : Zone → Zone) : (s.modZone z f).passDue = s.passDue := setZone_passDue ..
@[simp] theorem State.modZone_chans (s : State) (z : ZoneId) (f : Zone → Zone) : (s.modZone z f).chans = s.chans := setZone_chans ..
@[simp] theorem State.modZone_port (s : State) (z : ZoneId) (f : Zone → Zone) : (s.modZone z f).port = s.port := setZone_port ..
@[simp] theorem State.modZone_skipped (s : State) (z : ZoneId) (f : Zone → Zone) : (s.modZone z f).skipped = s.skipped := setZone_skipped ..
@[simp] theorem State.modZone_calls (s : State) (z : ZoneId) (f : Zone → Zone) : (s.modZone z f).calls = s.calls := setZone_calls ..
@[simp] theorem State.modZone_clock (s : State) (z : ZoneId) (f : Zone → Zone) : (s.modZone z f).clock = s.clock := setZone_clock ..
@[simp] theorem State.modZone_framesSent (s : State) (z : ZoneId) (f : Zone → Zone) : (s.modZone z f).framesSent = s.framesSent := setZone_framesSent ..
@[simp] theorem State.modZone_owed (s : State) (z : ZoneId) (f : Zone → Zone) : (s.modZone z f).owed = s.owed := setZone_owed ..
@[simp] theorem State.modZone_work (s : State) (z : ZoneId) (f : Zone → Zone) : (s.modZone z f).work = s.work := setZone_work ..
@[simp] theorem State.modZone_pending (s : State) (z : ZoneId) (f : Zone → Zone) : (s.modZone z f).pending = s.pending := setZone_pending ..
@[simp] theorem State.modZone_mp_requests (s : State) (z : ZoneId) (f : Zone → Zone) : (s.modZone z f).mp.requests = s.mp.requests := setZone_mp_requests ..
@[simp] theorem State.modZone_mp_outbound (s : State) (z : ZoneId) (f : Zone → Zone) : (s.modZone z f).mp.outbound = s.mp.outbound := setZone_mp_outbound ..
@[simp] theorem State.modZone_mp_reserved (s : State) (z : ZoneId) (f : Zone → Zone) : (s.modZone z f).mp.reserved = s.mp.reserved := setZone_mp_reserved ..
@[simp] theorem State.modZone_mp_finished (s : State) (z : ZoneId) (f : Zone → Zone) : (s.modZone z f).mp.finished = s.mp.finished := setZone_mp_finished ..
@[simp] theorem State.modZone_mp_params (s : State) (z : ZoneId) (f : Zone → Zone) : (s.modZone z f).mp.params = s.mp.params := setZone_mp_params ..
@[simp] theorem State.modZone_mp_device (s : State) (z : ZoneId) (f : Zone → Zone) : (s.modZone z f).mp.device = s.mp.device := setZone_mp_device ..
@[simp] theorem State.modZone_mp_prior (s : State) (z : ZoneId) (f : Zone → Zone) : (s.modZone z f).mp.prior = s.mp.prior := setZone_mp_prior ..
@[simp] theorem State.modZone_mp_resetting (s : State) (z : ZoneId) (f : Zone → Zone) : (s.modZone z f).mp.resetting = s.mp.resetting := setZone_mp_resetting ..
@[simp] theorem State.modZone_mp_requestErrors (s : State) (z : ZoneId) (f : Zone → Zone) : (s.modZone z f).mp.requestErrors = s.mp.requestErrors := setZone_mp_requestErrors ..
@[simp] theorem State.modZone_mp_requestOverflows (s : State) (z : ZoneId) (f : Zone → Zone) : (s.modZone z f).mp.requestOverflows = s.mp.requestOverflows := setZone_mp_requestOverflows ..
@[simp] theorem State.modZone_mp_downDiscards (s : State) (z : ZoneId) (f : Zone → Zone) : (s.modZone z f).mp.downDiscards = s.mp.downDiscards := setZone_mp_downDiscards ..
@[simp] theorem State.modZone_mp_upDiscards (s : State) (z : ZoneId) (f : Zone → Zone) : (s.modZone z f).mp.upDiscards = s.mp.upDiscards := setZone_mp_upDiscards ..
@[simp] theorem State.modZone_mp_downLosses (s : State) (z : ZoneId) (f : Zone → Zone) : (s.modZone z f).mp.downLosses = s.mp.downLosses := setZone_mp_downLosses ..
@[simp] theorem State.modZone_mp_upLosses (s : State) (z : ZoneId) (f : Zone → Zone) : (s.modZone z f).mp.upLosses = s.mp.upLosses := setZone_mp_upLosses ..
@[simp] theorem State.modZone_zones (s : State) (z : ZoneId) (f : Zone → Zone) :
    (s.modZone z f).zones = s.zones.set z.val (f s.zones[z]) z.isLt := setZone_zones ..
@[simp] theorem State.modZone_same (s : State) (z : ZoneId) (f : Zone → Zone) : (s.modZone z f).zones[z] = f s.zones[z] :=
  setZone_same ..
theorem State.modZone_other (s : State) (z y : ZoneId) (f : Zone → Zone) (h : y ≠ z) :
    (s.modZone z f).zones[y] = s.zones[y] := setZone_other _ _ _ _ h
/-- Changing a zone writes the zone and, where an item changed, the pending set. -/
theorem State.modZone_eq (s : State) (z : ZoneId) (f : Zone → Zone) :
    s.modZone z f =
      { s with
        zones := s.zones.set z.val (f s.zones[z]) z.isLt
        mp := { s.mp with changes := (s.modZone z f).mp.changes } } := setZone_eq ..

/-! ### setOwn -/

@[simp] theorem State.setOwn_pinHeld (s : State) (z : ZoneId) (o : Ownership) : (s.setOwn z o).pinHeld = s.pinHeld := setZone_pinHeld ..
@[simp] theorem State.setOwn_ti (s : State) (z : ZoneId) (o : Ownership) : (s.setOwn z o).ti = s.ti := setZone_ti ..
@[simp] theorem State.setOwn_scan (s : State) (z : ZoneId) (o : Ownership) : (s.setOwn z o).scan = s.scan := setZone_scan ..
@[simp] theorem State.setOwn_recs (s : State) (z : ZoneId) (o : Ownership) : (s.setOwn z o).recs = s.recs := setZone_recs ..
@[simp] theorem State.setOwn_seqCounter (s : State) (z : ZoneId) (o : Ownership) : (s.setOwn z o).seqCounter = s.seqCounter := setZone_seqCounter ..
@[simp] theorem State.setOwn_passDue (s : State) (z : ZoneId) (o : Ownership) : (s.setOwn z o).passDue = s.passDue := setZone_passDue ..
@[simp] theorem State.setOwn_chans (s : State) (z : ZoneId) (o : Ownership) : (s.setOwn z o).chans = s.chans := setZone_chans ..
@[simp] theorem State.setOwn_port (s : State) (z : ZoneId) (o : Ownership) : (s.setOwn z o).port = s.port := setZone_port ..
@[simp] theorem State.setOwn_skipped (s : State) (z : ZoneId) (o : Ownership) : (s.setOwn z o).skipped = s.skipped := setZone_skipped ..
@[simp] theorem State.setOwn_calls (s : State) (z : ZoneId) (o : Ownership) : (s.setOwn z o).calls = s.calls := setZone_calls ..
@[simp] theorem State.setOwn_clock (s : State) (z : ZoneId) (o : Ownership) : (s.setOwn z o).clock = s.clock := setZone_clock ..
@[simp] theorem State.setOwn_framesSent (s : State) (z : ZoneId) (o : Ownership) : (s.setOwn z o).framesSent = s.framesSent := setZone_framesSent ..
@[simp] theorem State.setOwn_owed (s : State) (z : ZoneId) (o : Ownership) : (s.setOwn z o).owed = s.owed := setZone_owed ..
@[simp] theorem State.setOwn_work (s : State) (z : ZoneId) (o : Ownership) : (s.setOwn z o).work = s.work := setZone_work ..
@[simp] theorem State.setOwn_pending (s : State) (z : ZoneId) (o : Ownership) : (s.setOwn z o).pending = s.pending := setZone_pending ..
@[simp] theorem State.setOwn_mp_requests (s : State) (z : ZoneId) (o : Ownership) : (s.setOwn z o).mp.requests = s.mp.requests := setZone_mp_requests ..
@[simp] theorem State.setOwn_mp_outbound (s : State) (z : ZoneId) (o : Ownership) : (s.setOwn z o).mp.outbound = s.mp.outbound := setZone_mp_outbound ..
@[simp] theorem State.setOwn_mp_reserved (s : State) (z : ZoneId) (o : Ownership) : (s.setOwn z o).mp.reserved = s.mp.reserved := setZone_mp_reserved ..
@[simp] theorem State.setOwn_mp_finished (s : State) (z : ZoneId) (o : Ownership) : (s.setOwn z o).mp.finished = s.mp.finished := setZone_mp_finished ..
@[simp] theorem State.setOwn_mp_params (s : State) (z : ZoneId) (o : Ownership) : (s.setOwn z o).mp.params = s.mp.params := setZone_mp_params ..
@[simp] theorem State.setOwn_mp_device (s : State) (z : ZoneId) (o : Ownership) : (s.setOwn z o).mp.device = s.mp.device := setZone_mp_device ..
@[simp] theorem State.setOwn_mp_prior (s : State) (z : ZoneId) (o : Ownership) : (s.setOwn z o).mp.prior = s.mp.prior := setZone_mp_prior ..
@[simp] theorem State.setOwn_mp_resetting (s : State) (z : ZoneId) (o : Ownership) : (s.setOwn z o).mp.resetting = s.mp.resetting := setZone_mp_resetting ..
@[simp] theorem State.setOwn_mp_requestErrors (s : State) (z : ZoneId) (o : Ownership) : (s.setOwn z o).mp.requestErrors = s.mp.requestErrors := setZone_mp_requestErrors ..
@[simp] theorem State.setOwn_mp_requestOverflows (s : State) (z : ZoneId) (o : Ownership) : (s.setOwn z o).mp.requestOverflows = s.mp.requestOverflows := setZone_mp_requestOverflows ..
@[simp] theorem State.setOwn_mp_downDiscards (s : State) (z : ZoneId) (o : Ownership) : (s.setOwn z o).mp.downDiscards = s.mp.downDiscards := setZone_mp_downDiscards ..
@[simp] theorem State.setOwn_mp_upDiscards (s : State) (z : ZoneId) (o : Ownership) : (s.setOwn z o).mp.upDiscards = s.mp.upDiscards := setZone_mp_upDiscards ..
@[simp] theorem State.setOwn_mp_downLosses (s : State) (z : ZoneId) (o : Ownership) : (s.setOwn z o).mp.downLosses = s.mp.downLosses := setZone_mp_downLosses ..
@[simp] theorem State.setOwn_mp_upLosses (s : State) (z : ZoneId) (o : Ownership) : (s.setOwn z o).mp.upLosses = s.mp.upLosses := setZone_mp_upLosses ..

/-! ### setStack -/

@[simp] theorem State.setStack_pinHeld (s : State) (z : ZoneId) (l : List RecRef) : (s.setStack z l).pinHeld = s.pinHeld := setZone_pinHeld ..
@[simp] theorem State.setStack_ti (s : State) (z : ZoneId) (l : List RecRef) : (s.setStack z l).ti = s.ti := setZone_ti ..
@[simp] theorem State.setStack_scan (s : State) (z : ZoneId) (l : List RecRef) : (s.setStack z l).scan = s.scan := setZone_scan ..
@[simp] theorem State.setStack_recs (s : State) (z : ZoneId) (l : List RecRef) : (s.setStack z l).recs = s.recs := setZone_recs ..
@[simp] theorem State.setStack_seqCounter (s : State) (z : ZoneId) (l : List RecRef) : (s.setStack z l).seqCounter = s.seqCounter := setZone_seqCounter ..
@[simp] theorem State.setStack_passDue (s : State) (z : ZoneId) (l : List RecRef) : (s.setStack z l).passDue = s.passDue := setZone_passDue ..
@[simp] theorem State.setStack_chans (s : State) (z : ZoneId) (l : List RecRef) : (s.setStack z l).chans = s.chans := setZone_chans ..
@[simp] theorem State.setStack_port (s : State) (z : ZoneId) (l : List RecRef) : (s.setStack z l).port = s.port := setZone_port ..
@[simp] theorem State.setStack_skipped (s : State) (z : ZoneId) (l : List RecRef) : (s.setStack z l).skipped = s.skipped := setZone_skipped ..
@[simp] theorem State.setStack_calls (s : State) (z : ZoneId) (l : List RecRef) : (s.setStack z l).calls = s.calls := setZone_calls ..
@[simp] theorem State.setStack_clock (s : State) (z : ZoneId) (l : List RecRef) : (s.setStack z l).clock = s.clock := setZone_clock ..
@[simp] theorem State.setStack_framesSent (s : State) (z : ZoneId) (l : List RecRef) : (s.setStack z l).framesSent = s.framesSent := setZone_framesSent ..
@[simp] theorem State.setStack_owed (s : State) (z : ZoneId) (l : List RecRef) : (s.setStack z l).owed = s.owed := setZone_owed ..
@[simp] theorem State.setStack_work (s : State) (z : ZoneId) (l : List RecRef) : (s.setStack z l).work = s.work := setZone_work ..
@[simp] theorem State.setStack_pending (s : State) (z : ZoneId) (l : List RecRef) : (s.setStack z l).pending = s.pending := setZone_pending ..
@[simp] theorem State.setStack_mp_requests (s : State) (z : ZoneId) (l : List RecRef) : (s.setStack z l).mp.requests = s.mp.requests := setZone_mp_requests ..
@[simp] theorem State.setStack_mp_outbound (s : State) (z : ZoneId) (l : List RecRef) : (s.setStack z l).mp.outbound = s.mp.outbound := setZone_mp_outbound ..
@[simp] theorem State.setStack_mp_reserved (s : State) (z : ZoneId) (l : List RecRef) : (s.setStack z l).mp.reserved = s.mp.reserved := setZone_mp_reserved ..
@[simp] theorem State.setStack_mp_finished (s : State) (z : ZoneId) (l : List RecRef) : (s.setStack z l).mp.finished = s.mp.finished := setZone_mp_finished ..
@[simp] theorem State.setStack_mp_params (s : State) (z : ZoneId) (l : List RecRef) : (s.setStack z l).mp.params = s.mp.params := setZone_mp_params ..
@[simp] theorem State.setStack_mp_device (s : State) (z : ZoneId) (l : List RecRef) : (s.setStack z l).mp.device = s.mp.device := setZone_mp_device ..
@[simp] theorem State.setStack_mp_prior (s : State) (z : ZoneId) (l : List RecRef) : (s.setStack z l).mp.prior = s.mp.prior := setZone_mp_prior ..
@[simp] theorem State.setStack_mp_resetting (s : State) (z : ZoneId) (l : List RecRef) : (s.setStack z l).mp.resetting = s.mp.resetting := setZone_mp_resetting ..
@[simp] theorem State.setStack_mp_requestErrors (s : State) (z : ZoneId) (l : List RecRef) : (s.setStack z l).mp.requestErrors = s.mp.requestErrors := setZone_mp_requestErrors ..
@[simp] theorem State.setStack_mp_requestOverflows (s : State) (z : ZoneId) (l : List RecRef) : (s.setStack z l).mp.requestOverflows = s.mp.requestOverflows := setZone_mp_requestOverflows ..
@[simp] theorem State.setStack_mp_downDiscards (s : State) (z : ZoneId) (l : List RecRef) : (s.setStack z l).mp.downDiscards = s.mp.downDiscards := setZone_mp_downDiscards ..
@[simp] theorem State.setStack_mp_upDiscards (s : State) (z : ZoneId) (l : List RecRef) : (s.setStack z l).mp.upDiscards = s.mp.upDiscards := setZone_mp_upDiscards ..
@[simp] theorem State.setStack_mp_downLosses (s : State) (z : ZoneId) (l : List RecRef) : (s.setStack z l).mp.downLosses = s.mp.downLosses := setZone_mp_downLosses ..
@[simp] theorem State.setStack_mp_upLosses (s : State) (z : ZoneId) (l : List RecRef) : (s.setStack z l).mp.upLosses = s.mp.upLosses := setZone_mp_upLosses ..

/-! ### setDevice -/

@[simp] theorem State.setDevice_pinHeld (s : State) (d : DeviceState) : (s.setDevice d).pinHeld = s.pinHeld := by simp [State.setDevice]
@[simp] theorem State.setDevice_ti (s : State) (d : DeviceState) : (s.setDevice d).ti = s.ti := by simp [State.setDevice]
@[simp] theorem State.setDevice_zones (s : State) (d : DeviceState) : (s.setDevice d).zones = s.zones := by simp [State.setDevice]
@[simp] theorem State.setDevice_scan (s : State) (d : DeviceState) : (s.setDevice d).scan = s.scan := by simp [State.setDevice]
@[simp] theorem State.setDevice_recs (s : State) (d : DeviceState) : (s.setDevice d).recs = s.recs := by simp [State.setDevice]
@[simp] theorem State.setDevice_seqCounter (s : State) (d : DeviceState) : (s.setDevice d).seqCounter = s.seqCounter := by simp [State.setDevice]
@[simp] theorem State.setDevice_passDue (s : State) (d : DeviceState) : (s.setDevice d).passDue = s.passDue := by simp [State.setDevice]
@[simp] theorem State.setDevice_chans (s : State) (d : DeviceState) : (s.setDevice d).chans = s.chans := by simp [State.setDevice]
@[simp] theorem State.setDevice_port (s : State) (d : DeviceState) : (s.setDevice d).port = s.port := by simp [State.setDevice]
@[simp] theorem State.setDevice_skipped (s : State) (d : DeviceState) : (s.setDevice d).skipped = s.skipped := by simp [State.setDevice]
@[simp] theorem State.setDevice_calls (s : State) (d : DeviceState) : (s.setDevice d).calls = s.calls := by simp [State.setDevice]
@[simp] theorem State.setDevice_clock (s : State) (d : DeviceState) : (s.setDevice d).clock = s.clock := by simp [State.setDevice]
@[simp] theorem State.setDevice_framesSent (s : State) (d : DeviceState) : (s.setDevice d).framesSent = s.framesSent := by simp [State.setDevice]
@[simp] theorem State.setDevice_owed (s : State) (d : DeviceState) : (s.setDevice d).owed = s.owed := by simp [State.setDevice]
@[simp] theorem State.setDevice_work (s : State) (d : DeviceState) : (s.setDevice d).work = s.work := by simp [State.setDevice]
@[simp] theorem State.setDevice_pending (s : State) (d : DeviceState) : (s.setDevice d).pending = s.pending := by simp [State.setDevice]
@[simp] theorem State.setDevice_mp_requests (s : State) (d : DeviceState) : (s.setDevice d).mp.requests = s.mp.requests := by simp [State.setDevice]
@[simp] theorem State.setDevice_mp_outbound (s : State) (d : DeviceState) : (s.setDevice d).mp.outbound = s.mp.outbound := by simp [State.setDevice]
@[simp] theorem State.setDevice_mp_reserved (s : State) (d : DeviceState) : (s.setDevice d).mp.reserved = s.mp.reserved := by simp [State.setDevice]
@[simp] theorem State.setDevice_mp_finished (s : State) (d : DeviceState) : (s.setDevice d).mp.finished = s.mp.finished := by simp [State.setDevice]
@[simp] theorem State.setDevice_mp_params (s : State) (d : DeviceState) : (s.setDevice d).mp.params = s.mp.params := by simp [State.setDevice]
@[simp] theorem State.setDevice_mp_prior (s : State) (d : DeviceState) : (s.setDevice d).mp.prior = s.mp.prior := by simp [State.setDevice]
@[simp] theorem State.setDevice_mp_resetting (s : State) (d : DeviceState) : (s.setDevice d).mp.resetting = s.mp.resetting := by simp [State.setDevice]
@[simp] theorem State.setDevice_mp_requestErrors (s : State) (d : DeviceState) : (s.setDevice d).mp.requestErrors = s.mp.requestErrors := by simp [State.setDevice]
@[simp] theorem State.setDevice_mp_requestOverflows (s : State) (d : DeviceState) : (s.setDevice d).mp.requestOverflows = s.mp.requestOverflows := by simp [State.setDevice]
@[simp] theorem State.setDevice_mp_downDiscards (s : State) (d : DeviceState) : (s.setDevice d).mp.downDiscards = s.mp.downDiscards := by simp [State.setDevice]
@[simp] theorem State.setDevice_mp_upDiscards (s : State) (d : DeviceState) : (s.setDevice d).mp.upDiscards = s.mp.upDiscards := by simp [State.setDevice]
@[simp] theorem State.setDevice_mp_downLosses (s : State) (d : DeviceState) : (s.setDevice d).mp.downLosses = s.mp.downLosses := by simp [State.setDevice]
@[simp] theorem State.setDevice_mp_upLosses (s : State) (d : DeviceState) : (s.setDevice d).mp.upLosses = s.mp.upLosses := by simp [State.setDevice]

/-! ### setDownAlign -/

@[simp] theorem State.setDownAlign_pinHeld (s : State) (a : Align) : (s.setDownAlign a).pinHeld = s.pinHeld := by simp [State.setDownAlign]
@[simp] theorem State.setDownAlign_zones (s : State) (a : Align) : (s.setDownAlign a).zones = s.zones := by simp [State.setDownAlign]
@[simp] theorem State.setDownAlign_scan (s : State) (a : Align) : (s.setDownAlign a).scan = s.scan := by simp [State.setDownAlign]
@[simp] theorem State.setDownAlign_recs (s : State) (a : Align) : (s.setDownAlign a).recs = s.recs := by simp [State.setDownAlign]
@[simp] theorem State.setDownAlign_seqCounter (s : State) (a : Align) : (s.setDownAlign a).seqCounter = s.seqCounter := by simp [State.setDownAlign]
@[simp] theorem State.setDownAlign_passDue (s : State) (a : Align) : (s.setDownAlign a).passDue = s.passDue := by simp [State.setDownAlign]
@[simp] theorem State.setDownAlign_chans (s : State) (a : Align) : (s.setDownAlign a).chans = s.chans := by simp [State.setDownAlign]
@[simp] theorem State.setDownAlign_port (s : State) (a : Align) : (s.setDownAlign a).port = s.port := by simp [State.setDownAlign]
@[simp] theorem State.setDownAlign_skipped (s : State) (a : Align) : (s.setDownAlign a).skipped = s.skipped := by simp [State.setDownAlign]
@[simp] theorem State.setDownAlign_calls (s : State) (a : Align) : (s.setDownAlign a).calls = s.calls := by simp [State.setDownAlign]
@[simp] theorem State.setDownAlign_clock (s : State) (a : Align) : (s.setDownAlign a).clock = s.clock := by simp [State.setDownAlign]
@[simp] theorem State.setDownAlign_framesSent (s : State) (a : Align) : (s.setDownAlign a).framesSent = s.framesSent := by simp [State.setDownAlign]
@[simp] theorem State.setDownAlign_owed (s : State) (a : Align) : (s.setDownAlign a).owed = s.owed := by simp [State.setDownAlign]
@[simp] theorem State.setDownAlign_work (s : State) (a : Align) : (s.setDownAlign a).work = s.work := by simp [State.setDownAlign]
@[simp] theorem State.setDownAlign_pending (s : State) (a : Align) : (s.setDownAlign a).pending = s.pending := by simp [State.setDownAlign]
@[simp] theorem State.setDownAlign_mp_requests (s : State) (a : Align) : (s.setDownAlign a).mp.requests = s.mp.requests := by simp [State.setDownAlign]
@[simp] theorem State.setDownAlign_mp_outbound (s : State) (a : Align) : (s.setDownAlign a).mp.outbound = s.mp.outbound := by simp [State.setDownAlign]
@[simp] theorem State.setDownAlign_mp_reserved (s : State) (a : Align) : (s.setDownAlign a).mp.reserved = s.mp.reserved := by simp [State.setDownAlign]
@[simp] theorem State.setDownAlign_mp_finished (s : State) (a : Align) : (s.setDownAlign a).mp.finished = s.mp.finished := by simp [State.setDownAlign]
@[simp] theorem State.setDownAlign_mp_params (s : State) (a : Align) : (s.setDownAlign a).mp.params = s.mp.params := by simp [State.setDownAlign]
@[simp] theorem State.setDownAlign_mp_device (s : State) (a : Align) : (s.setDownAlign a).mp.device = s.mp.device := by simp [State.setDownAlign]
@[simp] theorem State.setDownAlign_mp_prior (s : State) (a : Align) : (s.setDownAlign a).mp.prior = s.mp.prior := by simp [State.setDownAlign]
@[simp] theorem State.setDownAlign_mp_resetting (s : State) (a : Align) : (s.setDownAlign a).mp.resetting = s.mp.resetting := by simp [State.setDownAlign]
@[simp] theorem State.setDownAlign_mp_requestErrors (s : State) (a : Align) : (s.setDownAlign a).mp.requestErrors = s.mp.requestErrors := by simp [State.setDownAlign]
@[simp] theorem State.setDownAlign_mp_requestOverflows (s : State) (a : Align) : (s.setDownAlign a).mp.requestOverflows = s.mp.requestOverflows := by simp [State.setDownAlign]
@[simp] theorem State.setDownAlign_mp_downDiscards (s : State) (a : Align) : (s.setDownAlign a).mp.downDiscards = s.mp.downDiscards := by simp [State.setDownAlign]
@[simp] theorem State.setDownAlign_mp_upDiscards (s : State) (a : Align) : (s.setDownAlign a).mp.upDiscards = s.mp.upDiscards := by simp [State.setDownAlign]
@[simp] theorem State.setDownAlign_mp_downLosses (s : State) (a : Align) : (s.setDownAlign a).mp.downLosses = s.mp.downLosses := by simp [State.setDownAlign]
@[simp] theorem State.setDownAlign_mp_upLosses (s : State) (a : Align) : (s.setDownAlign a).mp.upLosses = s.mp.upLosses := by simp [State.setDownAlign]

/-! ### setUpAlign -/

@[simp] theorem State.setUpAlign_pinHeld (s : State) (a : Align) : (s.setUpAlign a).pinHeld = s.pinHeld := by simp [State.setUpAlign]
@[simp] theorem State.setUpAlign_zones (s : State) (a : Align) : (s.setUpAlign a).zones = s.zones := by simp [State.setUpAlign]
@[simp] theorem State.setUpAlign_scan (s : State) (a : Align) : (s.setUpAlign a).scan = s.scan := by simp [State.setUpAlign]
@[simp] theorem State.setUpAlign_recs (s : State) (a : Align) : (s.setUpAlign a).recs = s.recs := by simp [State.setUpAlign]
@[simp] theorem State.setUpAlign_seqCounter (s : State) (a : Align) : (s.setUpAlign a).seqCounter = s.seqCounter := by simp [State.setUpAlign]
@[simp] theorem State.setUpAlign_passDue (s : State) (a : Align) : (s.setUpAlign a).passDue = s.passDue := by simp [State.setUpAlign]
@[simp] theorem State.setUpAlign_chans (s : State) (a : Align) : (s.setUpAlign a).chans = s.chans := by simp [State.setUpAlign]
@[simp] theorem State.setUpAlign_port (s : State) (a : Align) : (s.setUpAlign a).port = s.port := by simp [State.setUpAlign]
@[simp] theorem State.setUpAlign_skipped (s : State) (a : Align) : (s.setUpAlign a).skipped = s.skipped := by simp [State.setUpAlign]
@[simp] theorem State.setUpAlign_calls (s : State) (a : Align) : (s.setUpAlign a).calls = s.calls := by simp [State.setUpAlign]
@[simp] theorem State.setUpAlign_clock (s : State) (a : Align) : (s.setUpAlign a).clock = s.clock := by simp [State.setUpAlign]
@[simp] theorem State.setUpAlign_framesSent (s : State) (a : Align) : (s.setUpAlign a).framesSent = s.framesSent := by simp [State.setUpAlign]
@[simp] theorem State.setUpAlign_owed (s : State) (a : Align) : (s.setUpAlign a).owed = s.owed := by simp [State.setUpAlign]
@[simp] theorem State.setUpAlign_work (s : State) (a : Align) : (s.setUpAlign a).work = s.work := by simp [State.setUpAlign]
@[simp] theorem State.setUpAlign_pending (s : State) (a : Align) : (s.setUpAlign a).pending = s.pending := by simp [State.setUpAlign]
@[simp] theorem State.setUpAlign_mp_requests (s : State) (a : Align) : (s.setUpAlign a).mp.requests = s.mp.requests := by simp [State.setUpAlign]
@[simp] theorem State.setUpAlign_mp_outbound (s : State) (a : Align) : (s.setUpAlign a).mp.outbound = s.mp.outbound := by simp [State.setUpAlign]
@[simp] theorem State.setUpAlign_mp_reserved (s : State) (a : Align) : (s.setUpAlign a).mp.reserved = s.mp.reserved := by simp [State.setUpAlign]
@[simp] theorem State.setUpAlign_mp_finished (s : State) (a : Align) : (s.setUpAlign a).mp.finished = s.mp.finished := by simp [State.setUpAlign]
@[simp] theorem State.setUpAlign_mp_params (s : State) (a : Align) : (s.setUpAlign a).mp.params = s.mp.params := by simp [State.setUpAlign]
@[simp] theorem State.setUpAlign_mp_device (s : State) (a : Align) : (s.setUpAlign a).mp.device = s.mp.device := by simp [State.setUpAlign]
@[simp] theorem State.setUpAlign_mp_prior (s : State) (a : Align) : (s.setUpAlign a).mp.prior = s.mp.prior := by simp [State.setUpAlign]
@[simp] theorem State.setUpAlign_mp_resetting (s : State) (a : Align) : (s.setUpAlign a).mp.resetting = s.mp.resetting := by simp [State.setUpAlign]
@[simp] theorem State.setUpAlign_mp_requestErrors (s : State) (a : Align) : (s.setUpAlign a).mp.requestErrors = s.mp.requestErrors := by simp [State.setUpAlign]
@[simp] theorem State.setUpAlign_mp_requestOverflows (s : State) (a : Align) : (s.setUpAlign a).mp.requestOverflows = s.mp.requestOverflows := by simp [State.setUpAlign]
@[simp] theorem State.setUpAlign_mp_downDiscards (s : State) (a : Align) : (s.setUpAlign a).mp.downDiscards = s.mp.downDiscards := by simp [State.setUpAlign]
@[simp] theorem State.setUpAlign_mp_upDiscards (s : State) (a : Align) : (s.setUpAlign a).mp.upDiscards = s.mp.upDiscards := by simp [State.setUpAlign]
@[simp] theorem State.setUpAlign_mp_downLosses (s : State) (a : Align) : (s.setUpAlign a).mp.downLosses = s.mp.downLosses := by simp [State.setUpAlign]
@[simp] theorem State.setUpAlign_mp_upLosses (s : State) (a : Align) : (s.setUpAlign a).mp.upLosses = s.mp.upLosses := by simp [State.setUpAlign]

/-! ### setClock -/

@[simp] theorem State.setClock_pinHeld (s : State) (c : Clock) : (s.setClock c).pinHeld = s.pinHeld := by simp [State.setClock]
@[simp] theorem State.setClock_ti (s : State) (c : Clock) : (s.setClock c).ti = s.ti := by simp [State.setClock]
@[simp] theorem State.setClock_zones (s : State) (c : Clock) : (s.setClock c).zones = s.zones := by simp [State.setClock]
@[simp] theorem State.setClock_scan (s : State) (c : Clock) : (s.setClock c).scan = s.scan := by simp [State.setClock]
@[simp] theorem State.setClock_recs (s : State) (c : Clock) : (s.setClock c).recs = s.recs := by simp [State.setClock]
@[simp] theorem State.setClock_seqCounter (s : State) (c : Clock) : (s.setClock c).seqCounter = s.seqCounter := by simp [State.setClock]
@[simp] theorem State.setClock_passDue (s : State) (c : Clock) : (s.setClock c).passDue = s.passDue := by simp [State.setClock]
@[simp] theorem State.setClock_chans (s : State) (c : Clock) : (s.setClock c).chans = s.chans := by simp [State.setClock]
@[simp] theorem State.setClock_port (s : State) (c : Clock) : (s.setClock c).port = s.port := by simp [State.setClock]
@[simp] theorem State.setClock_skipped (s : State) (c : Clock) : (s.setClock c).skipped = s.skipped := by simp [State.setClock]
@[simp] theorem State.setClock_calls (s : State) (c : Clock) : (s.setClock c).calls = s.calls := by simp [State.setClock]
@[simp] theorem State.setClock_framesSent (s : State) (c : Clock) : (s.setClock c).framesSent = s.framesSent := by simp [State.setClock]
@[simp] theorem State.setClock_owed (s : State) (c : Clock) : (s.setClock c).owed = s.owed := by simp [State.setClock]
@[simp] theorem State.setClock_work (s : State) (c : Clock) : (s.setClock c).work = s.work := by simp [State.setClock]
@[simp] theorem State.setClock_pending (s : State) (c : Clock) : (s.setClock c).pending = s.pending := by simp [State.setClock]
@[simp] theorem State.setClock_mp_requests (s : State) (c : Clock) : (s.setClock c).mp.requests = s.mp.requests := by simp [State.setClock]
@[simp] theorem State.setClock_mp_outbound (s : State) (c : Clock) : (s.setClock c).mp.outbound = s.mp.outbound := by simp [State.setClock]
@[simp] theorem State.setClock_mp_reserved (s : State) (c : Clock) : (s.setClock c).mp.reserved = s.mp.reserved := by simp [State.setClock]
@[simp] theorem State.setClock_mp_finished (s : State) (c : Clock) : (s.setClock c).mp.finished = s.mp.finished := by simp [State.setClock]
@[simp] theorem State.setClock_mp_params (s : State) (c : Clock) : (s.setClock c).mp.params = s.mp.params := by simp [State.setClock]
@[simp] theorem State.setClock_mp_device (s : State) (c : Clock) : (s.setClock c).mp.device = s.mp.device := by simp [State.setClock]
@[simp] theorem State.setClock_mp_prior (s : State) (c : Clock) : (s.setClock c).mp.prior = s.mp.prior := by simp [State.setClock]
@[simp] theorem State.setClock_mp_resetting (s : State) (c : Clock) : (s.setClock c).mp.resetting = s.mp.resetting := by simp [State.setClock]
@[simp] theorem State.setClock_mp_requestErrors (s : State) (c : Clock) : (s.setClock c).mp.requestErrors = s.mp.requestErrors := by simp [State.setClock]
@[simp] theorem State.setClock_mp_requestOverflows (s : State) (c : Clock) : (s.setClock c).mp.requestOverflows = s.mp.requestOverflows := by simp [State.setClock]
@[simp] theorem State.setClock_mp_downDiscards (s : State) (c : Clock) : (s.setClock c).mp.downDiscards = s.mp.downDiscards := by simp [State.setClock]
@[simp] theorem State.setClock_mp_upDiscards (s : State) (c : Clock) : (s.setClock c).mp.upDiscards = s.mp.upDiscards := by simp [State.setClock]
@[simp] theorem State.setClock_mp_downLosses (s : State) (c : Clock) : (s.setClock c).mp.downLosses = s.mp.downLosses := by simp [State.setClock]
@[simp] theorem State.setClock_mp_upLosses (s : State) (c : Clock) : (s.setClock c).mp.upLosses = s.mp.upLosses := by simp [State.setClock]

@[simp] theorem State.setDevice_device (s : State) (d : DeviceState) : (s.setDevice d).mp.device = d := by
  simp [State.setDevice]
@[simp] theorem State.setClock_clock (s : State) (c : Clock) : (s.setClock c).clock = c := by simp [State.setClock]
@[simp] theorem State.setDownAlign_ti (s : State) (a : Align) : (s.setDownAlign a).ti = { s.ti with downAlign := a } := by
  simp [State.setDownAlign]
@[simp] theorem State.setUpAlign_ti (s : State) (a : Align) : (s.setUpAlign a).ti = { s.ti with upAlign := a } := by
  simp [State.setUpAlign]

/-! ### Records -/

/-- A reference to the record a handle holds finds it. -/
theorem State.recOf_refAt (s : State) (h : Handle) (x : Rec) (e : s.recs[h] = some x) : s.recOf (refAt h x) = some x := by
  simp only [Fin.getElem_fin] at e
  simp [State.recOf, refAt, e]

/-- Looking a record up depends on the records alone. -/
theorem State.recOf_congr {s t : State} (e : t.recs = s.recs) (r : RecRef) : t.recOf r = s.recOf r := by
  simp [State.recOf, e]

end Sys2Proof.Machine
end

