-- ==== Sys2Proof/Laws/Params.lean ====
section
/-! SUPPORT. Parameter Memory: a write is read back, leaves every other word as it was, and keeps the canonical form;
so do all the operations over it. -/

namespace Sys2Proof.Machine

/-- In the canonical form every listed address lies above the bound. -/
theorem findWord_low (l : Nat) (m : ParamMem) (h : paramsWfFrom (some l) m = true) (a : Nat) (ha : a ≤ l) :
    findWord m a = none := by
  induction m generalizing l with
  | nil => rfl
  | cons p rest ih =>
    obtain ⟨b, w⟩ := p
    simp [paramsWfFrom] at h
    have : a ≠ b := by omega
    simp [findWord, this]
    exact ih b h.2 (by omega)

/-- A lower bound may be lowered. -/
theorem paramsWfFrom_mono (l l' : Nat) (m : ParamMem) (h : paramsWfFrom (some l) m = true) (hl : l' ≤ l) :
    paramsWfFrom (some l') m = true := by
  cases m with
  | nil => rfl
  | cons p rest =>
    obtain ⟨b, w⟩ := p
    simp [paramsWfFrom] at h ⊢
    exact ⟨⟨by omega, h.1.2⟩, h.2⟩

/-- A bound may be dropped. -/
theorem paramsWfFrom_none (l : Nat) (m : ParamMem) (h : paramsWfFrom (some l) m = true) : paramsWfFrom none m = true := by
  cases m with
  | nil => rfl
  | cons p rest =>
    obtain ⟨b, w⟩ := p
    simp [paramsWfFrom] at h ⊢
    exact ⟨h.1.2, h.2⟩

/-- A write above the bound keeps the canonical form above the bound. -/
theorem writeWord_wfFrom (l : Option Nat) (m : ParamMem) (a : Nat) (v : Word) (h : paramsWfFrom l m = true)
    (ha : ∀ b, l = some b → b < a) : paramsWfFrom l (writeWord m a v) = true := by
  induction m generalizing l with
  | nil =>
    unfold writeWord
    split
    · rfl
    · rename_i hv
      cases l with
      | none => simp [paramsWfFrom, hv]
      | some b => simp [paramsWfFrom, hv, ha b rfl]
  | cons p rest ih =>
    obtain ⟨b, w⟩ := p
    unfold writeWord
    have hr : paramsWfFrom (some b) rest = true := by simp [paramsWfFrom] at h; exact h.2
    have hb : w ≠ paramDefault b := by
      simp [paramsWfFrom] at h; exact h.1.2
    have hl : ∀ c, l = some c → c < b := by
      intro c hc
      subst hc
      simp [paramsWfFrom] at h; exact h.1.1
    split
    · split
      · exact h
      · rename_i hab hv
        cases l with
        | none => simp [paramsWfFrom, hv, hab, hb, hr]
        | some c => simp [paramsWfFrom, hv, hab, hb, hr, ha c rfl]
    · split
      · rename_i hab
        subst hab
        split
        · cases l with
          | none => exact paramsWfFrom_none a rest hr
          | some c => exact paramsWfFrom_mono a c rest hr (by have := ha c rfl; omega)
        · rename_i hv
          cases l with
          | none => simp [paramsWfFrom, hv, hr]
          | some c => simp [paramsWfFrom, hv, hr, ha c rfl]
      · have hba : b < a := by omega
        have := ih (some b) hr (by intro c hc; cases hc; exact hba)
        cases l with
        | none => simp [paramsWfFrom, hb, this]
        | some c => simp [paramsWfFrom, hb, this, hl c rfl]

/-- A write keeps the canonical form. -/
theorem writeWord_wf (m : ParamMem) (a : Nat) (v : Word) (h : m.wf = true) : ParamMem.wf (writeWord m a v) = true :=
  writeWord_wfFrom none m a v h (by simp)

/-- A word written is read back. -/
theorem readWord_writeWord_same (m : ParamMem) (a : Nat) (v : Word) (h : m.wf = true) :
    readWord (writeWord m a v) a = v := by
  unfold ParamMem.wf at h
  have key : ∀ (l : Option Nat) (m : ParamMem), paramsWfFrom l m = true → readWord (writeWord m a v) a = v := by
    intro l m
    induction m generalizing l with
    | nil =>
      intro _
      unfold writeWord
      split
      · rename_i hv; simp [readWord, findWord, hv]
      · simp [readWord, findWord]
    | cons p rest ih =>
      obtain ⟨b, w⟩ := p
      intro h
      have hr : paramsWfFrom (some b) rest = true := by simp [paramsWfFrom] at h; exact h.2
      unfold writeWord
      split
      · rename_i hab
        split
        · rename_i hv
          have : a ≠ b := by omega
          simp [readWord, findWord, this, findWord_low b rest hr a (by omega), hv]
        · simp [readWord, findWord]
      · split
        · rename_i hab
          split
          · rename_i hv
            subst hab
            simp [readWord, findWord_low a rest hr a (by omega), hv]
          · simp [readWord, findWord]
        · rename_i h1 h2
          have := ih (some b) hr
          simpa [readWord, findWord, h2] using this
  exact key none m h

/-- A write leaves every other word as it was. -/
theorem readWord_writeWord_other (m : ParamMem) (a b : Nat) (v : Word) (h : b ≠ a) :
    readWord (writeWord m a v) b = readWord m b := by
  induction m with
  | nil =>
    unfold writeWord
    split
    · rfl
    · simp [readWord, findWord, h]
  | cons p rest ih =>
    obtain ⟨c, w⟩ := p
    unfold writeWord
    split
    · split
      · rfl
      · simp [readWord, findWord, h]
    · split
      · rename_i hac
        subst hac
        split
        · simp [readWord, findWord, h]
        · simp [readWord, findWord, h]
      · by_cases hbc : b = c
        · simp [readWord, findWord, hbc]
        · simpa [readWord, findWord, hbc] using ih

/-- Writing a word of a request keeps the canonical form. -/
theorem State.writeParam_wf (s : State) (a : Nat) (v : Word) (h : s.mp.params.wf = true) :
    (s.writeParam a v).mp.params.wf = true := by
  unfold State.writeParam
  split
  · split
    · unfold State.clearCounter
      split
      · rw [modZone_mp_params]; exact h
      · split
        · exact h
        · split
          · exact h
          · split
            · unfold MsgProc.clearLink
              split <;> exact h
            · exact h
    · exact h
  · exact writeWord_wf _ _ _ h

/-- Writing the words of a request keeps the canonical form. -/
theorem State.writeParams_wf (s : State) (l : List (Nat × Word)) (h : s.mp.params.wf = true) :
    (s.writeParams l).mp.params.wf = true := by
  unfold State.writeParams
  induction l generalizing s with
  | nil => exact h
  | cons p l ih => exact ih _ (writeParam_wf s p.1 p.2 h)

/-- Parameter Memory after reset has the canonical form: nothing is listed. -/
theorem State.reset_params_wf : State.reset.mp.params.wf = true := rfl

end Sys2Proof.Machine
end

