-- ==== Sys2Proof/Laws/Work.lean ====
section
/-! SUPPORT. How a command's work is carried out: one piece at a time, the frame of a quiet command, the taking and
answering of a request, and the admission pass of a part at rest. -/

namespace Sys2Proof.Machine

/-! ### Work lists -/

/-- With nothing to do, nothing is done. -/
theorem drain_nil (n : Nat) (s : State) (h : s.work = []) : drain n s = s := by
  cases n with
  | zero => rfl
  | succ n => simp [drain, h]

/-- The first piece of work is done, and then what it leaves. -/
theorem drain_cons (n : Nat) (s : State) (t : Task) (rest : List Task) (h : s.work = t :: rest) :
    drain (n + 1) s = drain n (runTask t { s with work := rest }) := by simp [drain, h]

/-- All the work of a state with none is nothing. -/
theorem State.finish_nil (s : State) (h : s.work = []) : s.finish = s := drain_nil _ _ h

/-- The work of a state begins with its first piece. -/
theorem State.finish_cons (s : State) (t : Task) (rest : List Task) (h : s.work = t :: rest) :
    s.finish = drain 65535 (runTask t { s with work := rest }) := drain_cons 65535 s t rest h

/-! ### Quiet states -/

theorem State.quiet_pin {s : State} (h : s.quiet = true) : s.pinHeld = false := by
  simp [State.quiet] at h; exact h.1.1

theorem State.quiet_settled {s : State} (h : s.quiet = true) : s.settled = true := by
  simp [State.quiet] at h; exact h.1.2

theorem State.quiet_passDue {s : State} (h : s.quiet = true) : s.passDue = false := by
  simp [State.quiet] at h; exact h.2

theorem State.quiet_work {s : State} (h : s.quiet = true) : s.work = [] := by
  have := quiet_settled h
  simp [State.settled] at this
  exact this.1.1

theorem State.quiet_reset {s : State} (h : s.quiet = true) : s.softResetDue = false := by
  have := quiet_settled h
  simp [State.settled] at this
  exact this.1.2

theorem State.quiet_duck {s : State} (h : s.quiet = true) : s.owed.duck = none := by
  have := quiet_settled h
  simp [State.settled] at this
  exact this.2

/-- A duck step that is not owed is not taken (R39). -/
theorem State.takeDuck_none (s : State) (h : s.owed.duck = none) : s.takeDuck = s := by simp [State.takeDuck, h]

/-- A duck step that is owed is taken once, with the zones OWNED at its frame event (R39). -/
theorem State.takeDuck_some (s : State) (o : ZoneSet) (h : s.owed.duck = some o) :
    s.takeDuck = ({ s with owed := { s.owed with duck := none } }).duckStep o := by simp [State.takeDuck, h]

/-- A quiet part has nothing to settle. -/
theorem State.settle_quiet {s : State} (h : s.quiet = true) : s.settle = s := by
  simp [State.settle, State.takeDuck_none s (quiet_duck h), State.settleWork, quiet_work h, quiet_reset h]

/-- A command of a quiet part is its own work and the admission pass after it. -/
theorem State.command_quiet {s : State} (h : s.quiet = true) (f : State → State) : s.command f = s.carryOut f := by
  simp [State.command, quiet_pin h, settle_quiet h]

/-- While the reset pin is held a command does nothing (R167). -/
theorem State.command_held {s : State} (h : s.pinHeld = true) (f : State → State) : s.command f = s := by
  simp [State.command, h]

/-- A command whose work asks for nothing more ends with it. -/
theorem State.carryOut_plain (s : State) (f : State → State) (hw : (f s).work = []) (hp : (f s).passDue = false) :
    s.carryOut f = f s := by
  have e1 : ({ f s with work := (f s).work ++ [Task.passIfDue] } : State).work = Task.passIfDue :: [] := by simp [hw]
  unfold State.carryOut
  simp only []
  rw [State.finish_cons _ _ _ e1]
  have e2 : runTask Task.passIfDue { f s with work := [] } = f s := by
    simp only [runTask, State.passIfDue, hp]
    cases hs : f s; simp_all
  simp only [e2]
  exact drain_nil _ _ hw

/-- A command that places a RESULT and asks for nothing more ends with it. -/
theorem State.carryOut_answer (s : State) (f : State → State) (u : State) (q : Request) (code : Nat)
    (items : List Byte) (hf : f s = u.answer q code items) (hw : u.work = []) (hp : u.passDue = false) :
    s.carryOut f = u.placeResult q code items := by
  unfold State.carryOut
  simp only [hf]
  have e1 : ({ u.answer q code items with work := (u.answer q code items).work ++ [Task.passIfDue] } : State).work =
      Task.result q code items :: [Task.passIfDue] := by simp [State.answer, hw]
  rw [State.finish_cons _ _ _ e1]
  have e2 : runTask (Task.result q code items) { u.answer q code items with work := [Task.passIfDue] } =
      { u.placeResult q code items with work := [Task.passIfDue] } := rfl
  simp only [e2]
  rw [drain_cons 65534 _ Task.passIfDue [] rfl]
  have e3 : runTask Task.passIfDue { u.placeResult q code items with work := [] } = u.placeResult q code items := by
    have : (u.placeResult q code items).passDue = false := by simp [hp]
    simp only [runTask, State.passIfDue, this]
    cases hs : u; simp_all [State.placeResult, State.placeOut]
  simp only [e3]
  exact drain_nil _ _ (by simp [hw])

/-! ### Requests -/

/-- A request on offer that is one of the row's is taken and carried out (R180). -/
theorem State.takeRequest_offers {s : State} {q : Request} (h : s.offers q) {row : State → Request → Bool}
    (hr : row s q = true) (carry : State → Request → State) : s.takeRequest row carry = carry (s.taken q) q := by
  have h' : s.takeable = some q := h
  simp [State.takeRequest, h', hr]

/-- A request on offer that is none of the row's is left where it is. -/
theorem State.takeRequest_other {s : State} {q : Request} (h : s.offers q) {row : State → Request → Bool}
    (hr : row s q = false) (carry : State → Request → State) : s.takeRequest row carry = s := by
  have h' : s.takeable = some q := h
  simp [State.takeRequest, h', hr]

/-- A request of one place that is taken and answered at once: it leaves the buffer, and its RESULT follows (R180). -/
theorem State.taken_placeResult (s : State) (q : Request) (code : Nat) (items : List Byte) (h : placesFor q = 1) :
    (s.taken q).placeResult q code items = s.answered q code items := by
  simp [State.taken, State.placeResult, State.placeOut, State.answered, resultMessage, h]

/-- A quiet part that is offered a request of the row and answers it with nothing else in between. -/
theorem State.command_answer {s : State} {q : Request} (hq : s.quiet = true) (ho : s.offers q)
    {row : State → Request → Bool} (hr : row s q = true) {carry : State → Request → State} {u : State} {code : Nat}
    {items : List Byte} (hc : carry (s.taken q) q = u.answer q code items) (hw : u.work = []) (hp : u.passDue = false) :
    s.command (fun s => s.takeRequest row carry) = u.placeResult q code items := by
  rw [command_quiet hq]
  exact carryOut_answer _ _ _ _ _ _ (by rw [takeRequest_offers ho hr, hc]) hw hp

/-! ### Records at rest -/

/-- No record passes a test that every finished record fails. -/
theorem State.sorted_nil (s : State) (p : Rec → Bool) (key : Rec → Nat)
    (h : ∀ j : Handle, ∀ x, s.recs[j] = some x → p x = false) : s.sorted p key = [] := by
  unfold State.sorted
  have : ∀ l : List Handle, l.foldl (fun acc h =>
      match s.recs[h] with
      | some x => if p x then insertByKey (key x) (refAt h x) acc else acc
      | none => acc) [] = ([] : List (Nat × RecRef)) := by
    intro l
    induction l with
    | nil => rfl
    | cons j l ih =>
      rw [List.foldl_cons]
      have : (match s.recs[j] with
        | some x => if p x then insertByKey (key x) (refAt j x) ([] : List (Nat × RecRef)) else []
        | none => []) = [] := by
        split
        · rename_i x e; simp [h j x e]
        · rfl
      rw [this]; exact ih
  exact this _

theorem State.resting_done {s : State} (h : s.resting = true) (j : Handle) (x : Rec) (e : s.recs[j] = some x) :
    x.state = .done := by
  have := List.all_eq_true.mp h j (List.mem_finRange j)
  rw [e] at this
  simpa using this

/-- A part at rest has nothing queued. -/
theorem State.resting_queue {s : State} (h : s.resting = true) : s.queueKeyed = [] :=
  sorted_nil _ _ _ fun j x e => by simp [Rec.isQueued, resting_done h j x e]

/-- A part at rest has no record in the state. -/
theorem State.resting_none {s : State} (h : s.resting = true) (p : Rec → Bool) (hp : ∀ x, x.state = .done → p x = false) :
    s.bySequence p = [] := by
  simp [State.bySequence, sorted_nil s p Rec.seq fun j x e => hp x (resting_done h j x e)]

/-- A part at rest holds no evacuation record in force. -/
theorem State.resting_evac {s : State} (h : s.resting = true) : s.evacRec = none := by
  unfold State.evacRec State.recOf
  cases e : s.recs[evacRef.handle] with
  | none => rfl
  | some x =>
    simp only []
    split
    · rename_i y hy
      split at hy
      · cases hy
        simp [Rec.unfinished, resting_done h _ _ e]
      · cases hy
    · rfl

theorem State.resting_passVisit {s : State} (h : s.resting = true) (a : Option Nat) :
    s.passVisit a = s.push [.rejoinPaused] := by simp [State.passVisit, resting_queue h]

theorem State.resting_rejoinPaused {s : State} (h : s.resting = true) : s.rejoinPaused = s.push [.rejoinPlaying] := by
  simp [State.rejoinPaused, resting_none h (fun x => x.isAnnouncement && decide (x.state = .paused))
    (by intro x hx; simp [hx])]

theorem State.resting_rejoinPlaying {s : State} (h : s.resting = true) : s.rejoinPlaying = s.push [.passIfDue] := by
  simp [State.rejoinPlaying, resting_none h (fun x => x.isAnnouncement && decide (x.state = .playing))
    (by intro x hx; simp [hx])]

/-- The admission pass of a part at rest starts nothing and rejoins nothing (R53, R56). -/
theorem drain_pass_resting (n : Nat) (s : State) (h : s.resting = true) (hw : s.work = [.passIfDue]) :
    drain (n + 5) s = { s with work := [], passDue := false } := by
  have e : ∀ u : State, u.recs = s.recs → u.resting = true := fun u hu => by
    simpa [State.resting, hu] using h
  rw [drain_cons (n + 4) s _ _ hw]
  by_cases hp : s.passDue = true
  · have h1 : runTask .passIfDue { s with work := [] } = { s with work := [.passVisit none], passDue := false } := by
      simp [runTask, State.passIfDue, hp, State.push]
    rw [h1, drain_cons (n + 3) _ (.passVisit none) [] rfl]
    have h2 : runTask (.passVisit none) { s with work := [], passDue := false } =
        { s with work := [.rejoinPaused], passDue := false } :=
      State.resting_passVisit (e { s with work := [], passDue := false } rfl) none
    rw [h2, drain_cons (n + 2) _ .rejoinPaused [] rfl]
    have h3 : runTask .rejoinPaused { s with work := [], passDue := false } =
        { s with work := [.rejoinPlaying], passDue := false } := 
      State.resting_rejoinPaused (e { s with work := [], passDue := false } rfl)
    rw [h3, drain_cons (n + 1) _ .rejoinPlaying [] rfl]
    have h4 : runTask .rejoinPlaying { s with work := [], passDue := false } =
        { s with work := [.passIfDue], passDue := false } := 
      State.resting_rejoinPlaying (e { s with work := [], passDue := false } rfl)
    rw [h4, drain_cons n _ .passIfDue [] rfl]
    exact drain_nil _ _ rfl
  · have : runTask .passIfDue { s with work := [] } = { s with work := [], passDue := false } := by
      cases s; simp_all [runTask, State.passIfDue]
    rw [this, drain_nil _ _ rfl]

/-- A command of a part at rest that places a RESULT and notes at most a cause of the pass. -/
theorem State.carryOut_resting (s : State) (f : State → State) (u : State) (q : Request) (code : Nat)
    (items : List Byte) (hf : f s = u.answer q code items) (hw : u.work = []) (hr : u.resting = true) :
    s.carryOut f = { u.placeResult q code items with passDue := false } := by
  unfold State.carryOut
  simp only [hf]
  have e1 : ({ u.answer q code items with work := (u.answer q code items).work ++ [Task.passIfDue] } : State).work =
      Task.result q code items :: [Task.passIfDue] := by simp [State.answer, hw]
  rw [State.finish_cons _ _ _ e1]
  have e2 : runTask (Task.result q code items) { u.answer q code items with work := [Task.passIfDue] } =
      { u.placeResult q code items with work := [Task.passIfDue] } := rfl
  simp only [e2]
  rw [drain_pass_resting 65530 _ (by simpa [State.resting] using hr) rfl]
  cases u; simp_all [State.placeResult, State.placeOut]

/-! ### The small operations of endings, element ends and release choices -/

/-- The endings of one event note a cause of the admission pass exactly where there are some (R117, R128, R159, R161).
-/
theorem State.noteEndings_eq (s : State) (l : List Task) :
    s.noteEndings l = { s with passDue := s.passDue || !l.isEmpty } := by
  cases l <;> simp [State.noteEndings, State.notePass]

/-- Where no TIMETABLE announcement of the call is in force, amendment adds the work that follows and nothing else. -/
theorem State.amend_none (s : State) (id : Nat) (rest : List Task) (h : s.endings (timetableOf id) .amended = []) :
    s.amend id rest = s.push rest := by
  simp [State.amend, h, State.noteEndings_eq]

/-- An element end whose element has not run out when its turn comes is none (R85). -/
theorem State.takeEnd_running (s : State) (k : ChanId) (h : (s.chans[k]).ended = false) : s.takeEnd k = s := by
  unfold State.takeEnd
  rw [h]
  rfl

/-- The duck step writes ducks, and what is owed, and nothing else. -/
theorem State.duckStep_frame (s : State) (o : ZoneSet) : s.duckStep o = { s with
    zones := (s.duckStep o).zones, mp := { s.mp with changes := (s.duckStep o).mp.changes } } := by
  unfold State.duckStep
  generalize allZones = l
  suffices ∀ (t : State) (m : List ZoneId), t = { s with zones := t.zones, mp := { s.mp with changes := t.mp.changes } } →
      m.foldl (fun t z => t.modZone z fun x => x.duckStepped (hasZone o z) (s.duckDepth z)) t = { s with
        zones := (m.foldl (fun t z => t.modZone z fun x => x.duckStepped (hasZone o z) (s.duckDepth z)) t).zones
        mp := { s.mp with changes :=
          (m.foldl (fun t z => t.modZone z fun x => x.duckStepped (hasZone o z) (s.duckDepth z)) t).mp.changes } } from
    this s l rfl
  intro t m ht
  induction m generalizing t with
  | nil => exact ht
  | cons z m ih =>
    rw [List.foldl_cons]
    refine ih _ ?_
    rw [State.modZone, State.setZone_eq]
    rw [ht]

/-- Naming a record for a zone writes the zone's ownership and nothing else. -/
theorem State.nameFor_eq (s : State) (z : ZoneId) (r : RecRef) :
    s.nameFor z r = s ∨ ∃ b, s.nameFor z r = s.setOwn z (.choosing b (some r)) := by
  unfold State.nameFor
  split
  · exact .inr ⟨_, rfl⟩
  · exact .inl rfl

/-- A zone inside its release choice is taken by the record the choice has named, and by no other (R14). -/
theorem State.claim_choosing (s : State) (z : ZoneId) (b : Bool) (named : Option RecRef) (x : RecRef)
    (h : s.zones[z].own = .choosing b named) :
    s.claim z x = if named = some x then (s.takeUnowned z x, .taken) else (s, .notAvailable) := by
  unfold State.claim
  rw [h]

/-- A release choice made without a record does not offer the zone to it (R17). -/
theorem State.offer_without (s : State) (z : ZoneId) (r : RecRef) : s.offer z (some r) ≠ some r := by
  intro h
  have p := List.find?_some h
  split at p
  · cases p
  · simp at p

/-- While an element end of the channel is being taken, the pause is left to that end (R85, R87). -/
theorem State.pauseFor_nextDue (s : State) (k : ChanId) (r : RecRef) (h : s.nextDue k r = true) :
    s.pauseFor k r = s := by simp [State.pauseFor, h]

/-- With no element end under way, a channel whose element has not run out is paused at once (R87). -/
theorem State.pauseFor_running (s : State) (k : ChanId) (r : RecRef) (h : s.nextDue k r = false)
    (e : (s.chans[k]).ended = false) : s.pauseFor k r = s.pauseChan k := by
  unfold State.pauseFor
  rw [h, e]
  rfl

/-- A trip already latched is not changed (R151). -/
theorem State.tripZone_latched (s : State) (z : ZoneId) (k : TripState) (h : s.zones[z].trip ≠ .none) :
    s.tripZone z k = s := if_neg h

/-- A report of a trip changes nothing in a zone that is not usable, and otherwise vacates it (R19). -/
theorem State.zoneTripped_eq (s : State) (z : ZoneId) :
    s.zoneTripped z = if s.usable z then (s.push [.addFallback z]).vacate z .tripped else s := by
  unfold State.zoneTripped State.usable
  cases s.zones[z].own <;> rfl

end Sys2Proof.Machine
end

