-- ==== Sys2Proof/WellFormed.lean ====
section
/-! DEFINITION. Which commands are well formed: a frame has the octets R194 gives it, and a burst reads
1..128 octets (R91). A command that is not well formed stands for no event of the part. -/

namespace Sys2Proof

/-- The octet counts of R194 and R91. -/
def Instr.wellFormed : Instr → Bool
  | .downstreamFrameArrival octets => octets.length == 22
  | .upstreamFrameArrival octets => octets.length == 54
  | .burstComplete octets => 1 ≤ octets.length && octets.length ≤ 128
  | .paramWrite | .paramRead | .zoneEnableWrite | .zoneDisableWrite | .limiterModeWrite
  | .compensationWrite | .duckDepthWrite | .lateThresholdWrite | .changeMaskWrite
  | .clipCounterClear | .underrunCounterClear | .skippedCountClear | .linkCounterClear
  | .stateSet | .timeSet | .callSet | .callDelete | .delay | .platform | .arrived | .departed
  | .cancel | .reinstate | .announce | .annCancel | .pageOpen | .pageClose | .evacStart | .evacEnd
  | .faultClear | .reset | .softReset | .resetPinAssert | .resetPinRelease _
  | .localFrameTimerExpiry | .duckStepEvent | .limiterStepEvent | .compensationStepEvent
  | .secondEvent _ | .pageHangExpiry _ | .scanRoundBegin | .lineTestEnd | .burstGrant
  | .elementEnd _ | .annDoneBuild | .changeBuild | .callNoticeBuild | .badTypeRequest
  | .unknownEventCode => true

end Sys2Proof
end

