-- ==== Sys2Proof/Tests/Slice0.lean ====
section
/-! SUPPORT. Tests: ill-formed commands, the absence of decodable words, for each statement of the certificate a state
that meets its hypotheses, and small tests of single steps with values worked from the manual. -/

namespace Sys2Proof.Tests

open Sys2Proof Sys2Proof.Machine

set_option Elab.async false

/-! ### Well-formedness and decoding -/

/-- A downstream frame has 22 octets (R194). -/
theorem test_short_downstream_frame_refused : (Instr.downstreamFrameArrival [0xA5]).wellFormed = false := by decide
/-- An upstream frame has 54 octets (R194). -/
theorem test_short_upstream_frame_refused : (Instr.upstreamFrameArrival [0x5A]).wellFormed = false := by decide
/-- A burst reads 1 octet at least (R91). -/
theorem test_empty_burst_refused : (Instr.burstComplete []).wellFormed = false := by decide
/-- A burst reads 128 octets at most (R91). -/
theorem test_long_burst_refused : (Instr.burstComplete (List.replicate 129 0)).wellFormed = false := by
  decide +kernel
/-- The table gives no row bits: no word spells a command. -/
theorem test_no_word_decodes : decodeTableWord 8 0x5A = none := rfl

/-! ### States -/

/-- The state a command answers. -/
def after (c : Instr) (s : State) : State :=
  match exec c s with
  | .next t => t
  | .fault _ => s
  | .refused _ => s

/-- A request of the head end's, from address 7 with tag 5. -/
def req (type : Nat) (payload : List Byte) : Request := ⟨0, 7, BitVec.ofNat 8 type, 5, payload⟩

/-- The state with one request in the buffer. -/
def offer (s : State) (type : Nat) (payload : List Byte) : State :=
  { s with mp := { s.mp with requests := [req type payload] } }

/-- Zones 0 and 1 enabled and FREE with line tests on, template 0 a gap of 5 units, in RUN, both directions ALIGNED. -/
def base : State :=
  { State.reset with
    ti := { Trunk.init with downAlign := .aligned, upAlign := .aligned, timerRunning := false }
    mp := { MsgProc.init with
      device := .run, params := [(0x100, 0x0115), (0x110, 0x0115), (0x400, 0x8005)] }
    zones := ((Vector.replicate 24 Zone.init).set 0 { Zone.init with own := .free }).set 1 { Zone.init with own := .free } }

/-- The octets of a CALL_SET for call 100: a departure from platform 1 at minute 600 of day 3, plan 0, delay 0. -/
def callOctets : List Byte :=
  put2 100 ++ put1 1 ++ put1 1 ++ put2 20 ++ put2 0xFFFF ++ put2 0xFFFF ++ put1 8 ++ put2 3 ++ put2 600 ++ put2 0 ++ put1 0

/-- Call 100 as that CALL_SET creates it. -/
def call100 : Call := callOfPayload 3 callOctets

/-- The base state with call 100 in slot 0 and another call state if asked. -/
def withCall (c : Call) : State := { base with calls := base.calls.set 0 (some c) }

/-- The octets of a CALL_EVENT of call 100. -/
def eventOctets (code value : Nat) : List Byte := put2 100 ++ put1 code ++ put2 value

/-- An announcement of template 0 for zones 0 and 1. -/
def annRec (state : RecState) (origin : Origin) : Rec :=
  { queuedRec origin .info 0 none none 3 3 none false false with seq := 1, state := state }

/-- The base state with a record under handle 0. -/
def withRec (x : Rec) : State := { base with recs := base.recs.set 0 (some x), seqCounter := 1 }

/-- A page from S2 that owns zone 0. -/
def pageState (timer : Nat) : State :=
  { withRec { pageRec 2 30 1 1 with seq := 1, live := 1, start := 1, body := .page 2 30 timer false } with
    zones := base.zones.set 0 { Zone.init with own := .owned ⟨0, 1⟩ none } }

/-- An announcement of two gaps that plays on channel 0 and owns zones 0 and 1, its current gap run out. -/
def playingState (index : Nat) : State :=
  { withRec { annRec .playing .manual with
      channel := some 0, list := [⟨.gap 5, false⟩, ⟨.gap 7, false⟩], index := index, live := 3, start := 3 } with
    zones := (base.zones.set 0 { Zone.init with own := .owned ⟨0, 1⟩ none }).set 1 { Zone.init with own := .owned ⟨0, 1⟩ none }
    chans := base.chans.set 0
      { Channel.init with state := .running, bound := some ⟨⟨0, 1⟩, .info⟩, index := index, cur := .gap 0 } }

/-- The announcement of `playingState`, as its record stands there. -/
def playingRec (index : Nat) : Rec :=
  { annRec .playing .manual with
    channel := some 0, list := [⟨.gap 5, false⟩, ⟨.gap 7, false⟩], index := index, live := 3, start := 3 }

/-- A second record under handle 1 and a zone record in place of zone 0's. -/
def joinedBy (s : State) (y : Rec) (x : Zone) : State :=
  { s with recs := s.recs.set 1 (some y), seqCounter := 2, zones := s.zones.set 0 x }

/-- An evacuation from S1 over zones 0 and 1, from RUN. -/
def evacState : State :=
  { base with
    mp := { base.mp with device := .evac, prior := some .run }
    recs := base.recs.set 63 (some { evacRecord (.evacSource 1) 0 3 with live := 3, start := 3 })
    zones := (base.zones.set 0 { Zone.init with own := .owned evacRef none }).set 1 { Zone.init with own := .owned evacRef none } }

/-- A zone record in place of zone 0's. -/
def withZone0 (x : Zone) : State := { base with zones := base.zones.set 0 x }

/-! ### Checks over every record, call and zone -/

/-- A test that every allocated handle passes. -/
theorem recs_all {s : State} {p : Handle → Rec → Bool}
    (h : ((List.finRange 64).all fun j => match s.recs[j] with | some x => p j x | none => true) = true) :
    ∀ (j : Handle) x, s.recs[j] = some x → p j x = true := by
  intro j x e
  have := List.all_eq_true.mp h j (List.mem_finRange j)
  rw [e] at this
  exact this

/-- A test that every call record passes. -/
theorem calls_all {s : State} {p : CallSlot → Call → Bool}
    (h : ((List.finRange 256).all fun j => match s.calls[j] with | some x => p j x | none => true) = true) :
    ∀ (j : CallSlot) x, s.calls[j] = some x → p j x = true := by
  intro j x e
  have := List.all_eq_true.mp h j (List.mem_finRange j)
  rw [e] at this
  exact this

/-- No zone has a pending claim. -/
theorem no_claims {s : State}
    (h : (allZones.all fun z => match s.zones[z].own with | .owned _ (some _) => false | _ => true) = true) :
    ∀ (z : ZoneId) y p, s.zones[z].own ≠ .owned y (some p) := by
  intro z y p e
  have := List.all_eq_true.mp h z (List.mem_finRange z)
  rw [e] at this
  cases this

/-- A zone outside a release choice. -/
theorem not_choosing {o : Ownership} (d : (match o with | .choosing _ _ => false | _ => true) = true) :
    ∀ b n, o ≠ .choosing b n := by
  rintro b n rfl
  cases d

/-! ### The whole machine -/

theorem test_front_command_waits : { base with pending := [.duckStepEvent] }.pending = Instr.duckStepEvent :: [] := rfl
theorem test_empty_queue : base.pending = [] := rfl

/-- A state with work before it that meets every invariant, and takes a step. -/
theorem test_invariants_witness : ∃ t, base.mp.params.wf = true ∧ base.paramsLegal = true ∧ base.stacksSound = true ∧
    base.sequencesSound = true ∧ base.trunkSound = true ∧ base.changesSound = true ∧
    step { base with pending := [.downstreamFrameArrival (0xA5 :: List.replicate 21 0)] } = .next t :=
  ⟨_, by decide +kernel, by decide +kernel, by decide +kernel, by decide +kernel, by decide +kernel, by decide +kernel,
    rfl⟩

theorem test_device_witness : ∃ t, base.mp.resetting = false ∧ exec .duckStepEvent base = .next t := ⟨_, rfl, rfl⟩
theorem test_pin_held_witness : { base with pinHeld := true }.pinHeld = true := rfl

/-! ### Parameter Memory -/

/-- A read of words 0 and 1, and a read of word 0x15, which lies in no region. -/
theorem test_read_witness :
    (offer base 2 [0, 0, 2]).quiet = true ∧ (offer base 2 [0, 0, 2]).takeable = some (req 2 [0, 0, 2]) ∧
      (req 2 [0, 0, 2]).type.toNat = TypeCode.paramRead ∧ countOk [0, 0, 2] = true ∧
      ((List.range 2).all fun i => readable i) = true ∧ ((List.range 1).all fun i => readable (0x15 + i)) = false := by
  decide +kernel

/-- Power-on words 0 and 1 read 512 and 30 (R197). -/
theorem test_read_device_settings :
    (after .paramRead (offer base 2 [0, 0, 2])).mp.outbound =
      [message 7 0 0x80 5 [0, 2, 0, 0, 30]] := by decide +kernel

/-- One word written: a base gain, a duck depth, a spare word, a limiter code that does not exist. -/
theorem test_write_witness :
    (offer base 1 (oneWord 0x101 5)).quiet = true ∧
      (offer base 1 (oneWord 0x101 5)).takeable = some (req 1 (oneWord 0x101 5)) ∧
      (req 1 (oneWord 0x101 5)).type.toNat = TypeCode.paramWrite ∧ base.mp.params.wf = true ∧
      writable 0x101 = true ∧ codesExist 0x101 5 = true ∧ isCounterWord 0x101 = false ∧
      writable 0x104 = true ∧ codesExist 0x104 70 = true ∧ isCounterWord 0x104 = false ∧
      writable 0x10D = false ∧ writable 0x100 = true ∧ codesExist 0x100 0x80 = false := by decide +kernel

/-- A base gain above +12 is clamped to +12 (R1, R185). -/
theorem test_write_clamps :
    (after .paramWrite (offer base 1 (oneWord 0x101 5000))).word 0x101 = 12 := by decide +kernel
/-- D is 60 at most (R1). -/
theorem test_duck_depth_clamps :
    (after .duckDepthWrite (offer base 1 (oneWord 0x104 70))).duckDepth 0 = 60 := by decide +kernel

theorem test_enable_witness :
    (offer base 1 (oneWord 0x120 0x31)).quiet = true ∧
      (offer base 1 (oneWord 0x120 0x31)).takeable = some (req 1 (oneWord 0x120 0x31)) ∧
      zoneWordAddr 2 0 = 0x120 ∧ codesExist 0x120 0x31 = true ∧ base.enabled 2 = false ∧
      (0x31 : Word).getLsbD 0 = true ∧ base.zones[2].own = .disabled ∧ base.underTest 2 = false ∧
      base.evacRec = none := by decide +kernel

/-- Enabling a zone frees it and applies its limiter mode (R5, R143). -/
theorem test_enable_frees :
    let t := after .zoneEnableWrite (offer base 1 (oneWord 0x120 0x31))
    t.zones[2].own = .free ∧ t.zones[2].appliedMode = .regulate := by decide +kernel

theorem test_disable_witness :
    (offer (pageState 9) 1 (oneWord 0x100 0x114)).quiet = true ∧
      (offer (pageState 9) 1 (oneWord 0x100 0x114)).takeable = some (req 1 (oneWord 0x100 0x114)) ∧
      zoneWordAddr 0 0 = 0x100 ∧ codesExist 0x100 0x114 = true ∧ (pageState 9).mp.params.wf = true ∧
      (pageState 9).enabled 0 = true ∧ (0x114 : Word).getLsbD 0 = false ∧
      (pageState 9).zones[0].own = .owned ⟨0, 1⟩ none ∧ (pageState 9).underTest 0 = false ∧
      ((pageState 9).recOf ⟨0, 1⟩).map Rec.state = some .live ∧
      base.zones[0].own.owner? = none := by decide +kernel

/-- Disabling detaches the owner without a push (R6). -/
theorem test_disable_detaches :
    let t := after .zoneDisableWrite (offer (pageState 9) 1 (oneWord 0x100 0x114))
    t.zones[0].own = .disabled ∧ t.zones[0].stack = [] ∧ (t.recs[0]).map Rec.detached = some 1 := by decide +kernel

/-- Word 0 of an enabled zone and of a disabled one, each written without turning it. -/
theorem test_limiter_witness :
    (offer base 1 (oneWord 0x100 0x135)).quiet = true ∧
      (offer base 1 (oneWord 0x100 0x135)).takeable = some (req 1 (oneWord 0x100 0x135)) ∧
      codesExist 0x100 0x135 = true ∧ (0x135 : Word).getLsbD 0 = base.enabled 0 ∧ base.underTest 0 = false ∧
      (offer base 1 (oneWord 0x120 0x30)).takeable = some (req 1 (oneWord 0x120 0x30)) ∧
      codesExist 0x120 0x30 = true ∧ (0x30 : Word).getLsbD 0 = base.enabled 2 ∧ base.underTest 2 = false := by
  decide +kernel

/-- Staged while enabled, applied at once while disabled (R143). -/
theorem test_limiter_staged :
    (after .limiterModeWrite (offer base 1 (oneWord 0x100 0x135))).zones[0].appliedMode = .trip ∧
      (after .limiterModeWrite (offer base 1 (oneWord 0x120 0x30))).zones[2].appliedMode = .regulate := by
  decide +kernel

theorem test_compensation_witness :
    (offer base 1 (oneWord 0x10C 3)).quiet = true ∧
      (offer base 1 (oneWord 0x10C 3)).takeable = some (req 1 (oneWord 0x10C 3)) ∧ zoneWordAddr 0 12 = 0x10C ∧
      (offer base 1 (oneWord 0x10A 70)).takeable = some (req 1 (oneWord 0x10A 70)) ∧ zoneWordAddr 0 10 = 0x10A ∧
      base.mp.params.wf = true := by decide +kernel

/-- Cmax 3 pulls c and c_t down to 3 (R149). -/
theorem test_compensation_clamps :
    let s := withZone0 { Zone.init with own := .free, comp := 9, cTarget := 2 }
    let t := after .compensationWrite (offer s 1 (oneWord 0x10C 3))
    t.zones[0].comp = 3 ∧ t.zones[0].cTarget = 2 ∧ t.zones[0].blankUntil = some 32001 := by decide +kernel

theorem test_late_threshold_witness :
    (offer (withCall call100) 1 (oneWord 3 0)).quiet = true ∧
      (offer (withCall call100) 1 (oneWord 3 0)).takeable = some (req 1 (oneWord 3 0)) := by decide +kernel

/-- A threshold of 0 makes L set for a call on time (R101). -/
theorem test_late_threshold_zero :
    ((after .lateThresholdWrite (offer (withCall call100) 1 (oneWord 3 0))).calls[0]).map Call.late = some true := by
  decide +kernel

/-- Device state and zone 0's line state pending, both masked. -/
def pendingState : State :=
  { base with mp := { base.mp with
    params := base.mp.params ++ [(0x2100, 1), (0x2106, 1)], changes := [(0, 1), (96, 1)] } }

theorem test_mask_witness :
    (offer pendingState 1 (oneWord 0x2106 0)).quiet = true ∧
      (offer pendingState 1 (oneWord 0x2106 0)).takeable = some (req 1 (oneWord 0x2106 0)) ∧
      pendingState.mp.params.wf = true ∧ pendingState.changesSound = true := by decide +kernel

theorem test_mask_drops :
    (after .changeMaskWrite (offer pendingState 1 (oneWord 0x2106 0))).mp.changes = [(0, 1)] := by decide +kernel

theorem test_counter_witness :
    (offer base 1 (oneWord (clipAddr 0) 0)).quiet = true ∧
      (offer base 1 (oneWord (clipAddr 0) 0)).takeable = some (req 1 (oneWord (clipAddr 0) 0)) ∧
      (offer base 1 (oneWord (underrunAddr 5) 7)).takeable = some (req 1 (oneWord (underrunAddr 5) 7)) ∧
      (offer base 1 (oneWord skippedAddr 0)).takeable = some (req 1 (oneWord skippedAddr 0)) ∧
      (offer base 1 (oneWord (linkAddr + 5) 0)).takeable = some (req 1 (oneWord (linkAddr + 5) 0)) := by decide +kernel

/-- 0 clears a counter and 7 does not (R37, R97). -/
theorem test_counters_clear :
    (after .clipCounterClear (offer (withZone0 { Zone.init with own := .free, clip := 4 }) 1 (oneWord 0x3045 0))).zones[0].clip = 0 ∧
      (after .clipCounterClear (offer (withZone0 { Zone.init with own := .free, clip := 4 }) 1 (oneWord 0x3045 7))).zones[0].clip = 4 ∧
      ((after .underrunCounterClear (offer { base with chans := base.chans.set 5 { Channel.init with underrun := 4 } } 1
        (oneWord 0x3255 0))).chans[5]).underrun = 0 := by decide +kernel
theorem test_counters_clear_device :
    (after .skippedCountClear (offer { base with skipped := 4 } 1 (oneWord 0x3015 0))).skipped = 0 ∧
      (after .linkCounterClear (offer { base with mp := { base.mp with upLosses := 3 } } 1 (oneWord 0x301B 0))).mp.upLosses = 0 := by
  decide +kernel

/-! ### Device state and clock -/

theorem test_state_set_witness :
    (offer base 3 [2]).quiet = true ∧ (offer base 3 [2]).takeable = some (req 3 [2]) ∧
      (req 3 [2]).type.toNat = TypeCode.stateSet ∧ targetOf 2 = some .quiet ∧ targetOf 1 = some .run ∧
      base.mp.device = .run ∧ base.resting = true ∧ (offer evacState 3 [2]).takeable = some (req 3 [2]) ∧
      evacState.mp.device = .evac ∧ (offer State.reset 3 [2]).takeable = some (req 3 [2]) ∧
      State.reset.mp.device = .config ∧ (offer base 3 [3]).takeable = some (req 3 [3]) := by decide +kernel

/-- The base state with the masks of zones 0 to 3 and of the four device items on. -/
def maskedState : State :=
  { base with mp := { base.mp with params := base.mp.params ++ [(0x2100, 0xFFFF), (0x2106, 0x000F)] } }

/-- An item that changes joins the pending set where it is masked, and not where it is not (R189). -/
theorem test_items_join :
    (after .stateSet (offer maskedState 3 [2])).mp.changes = [(96, 2)] ∧
      (after .stateSet (offer base 3 [2])).mp.changes = [] ∧
      (after .timeSet (offer maskedState 4 [0, 3, 1, 0x51, 0x7F])).mp.changes = [(99, 1)] ∧
      (after .zoneEnableWrite (offer maskedState 1 (oneWord 0x120 0x31))).mp.changes = [(11, 1)] := by decide +kernel

/-- RUN to QUIET (R157). -/
theorem test_state_set_quiet : (after .stateSet (offer base 3 [2])).mp.device = .quiet := by decide +kernel

theorem test_time_set_witness :
    (offer base 4 [0, 3, 1, 0x51, 0x7F]).quiet = true ∧
      (offer base 4 [0, 3, 1, 0x51, 0x7F]).takeable = some (req 4 [0, 3, 1, 0x51, 0x7F]) ∧
      (req 4 [0, 3, 1, 0x51, 0x7F]).type.toNat = TypeCode.timeSet ∧ field3 [0, 3, 1, 0x51, 0x7F] 2 = 86399 ∧
      (offer base 4 [0, 3, 1, 0x51, 0x80]).takeable = some (req 4 [0, 3, 1, 0x51, 0x80]) ∧
      field3 [0, 3, 1, 0x51, 0x80] 2 = 86400 := by decide +kernel

/-- The last second of day 3. -/
theorem test_time_set : (after .timeSet (offer base 4 [0, 3, 1, 0x51, 0x7F])).clock = ⟨3, 86399, true⟩ := by
  decide +kernel

/-! ### Calls and running events -/

theorem test_call_set_witness :
    (offer base 5 callOctets).quiet = true ∧ (offer base 5 callOctets).takeable = some (req 5 callOctets) ∧
      (req 5 callOctets).type.toNat = TypeCode.callSet ∧ callOctets.length = 18 ∧ callFieldsOk callOctets = true ∧
      base.calls[0] = none ∧ base.findCall 100 = none ∧ (withCall call100).findCall 100 = some 0 ∧
      field2 callOctets 0 = 100 ∧ callFieldsOk (callOctets.set 3 33) = false ∧
      (offer base 5 (callOctets.set 3 33)).takeable = some (req 5 (callOctets.set 3 33)) := by decide +kernel

/-- A call table without a free slot, and without call 100. -/
theorem test_call_table_full_witness :
    let s := offer { base with calls := Vector.replicate 256 (some { call100 with id := 7 }) } 5 callOctets
    s.quiet = true ∧ s.takeable = some (req 5 callOctets) ∧ s.findCall 100 = none ∧ s.freeSlot = none := by
  decide +kernel

theorem test_call_set_creates :
    ((after .callSet (offer base 5 callOctets)).calls[0]).map (fun c => (c.id, c.platform, c.minute, c.noticePending)) =
      some (100, 1, 600, true) := by decide +kernel

theorem test_call_delete_witness :
    (offer (withCall call100) 6 (put2 100)).quiet = true ∧
      (offer (withCall call100) 6 (put2 100)).takeable = some (req 6 (put2 100)) ∧
      (req 6 (put2 100)).type.toNat = TypeCode.callDelete ∧ (withCall call100).findCall 100 = some 0 ∧
      base.findCall 100 = none ∧ (offer base 6 (put2 100)).takeable = some (req 6 (put2 100)) := by decide +kernel

theorem test_call_delete_frees : (after .callDelete (offer (withCall call100) 6 (put2 100))).calls[0] = none := by
  decide +kernel

/-- No record at all stands in the base state: what the statements ask of records holds of each. -/
theorem test_no_records : ∀ (h : Handle) x, (withCall call100).recs[h] = some x → False := fun h x e => by
  have := recs_all (s := withCall call100) (p := fun _ _ => false) (by decide +kernel) h x e
  cases this

/-- The six running events of call 100, in states that accept them, and one that does not. -/
theorem test_event_witness :
    (offer (withCall call100) 7 (eventOctets 0 5)).quiet = true ∧
      (offer (withCall call100) 7 (eventOctets 0 5)).takeable = some (req 7 (eventOctets 0 5)) ∧
      eventIs .delay base (req 7 (eventOctets 0 5)) = true ∧ eventIs .platform base (req 7 (eventOctets 1 5)) = true ∧
      eventIs .arrived base (req 7 (eventOctets 2 0)) = true ∧ eventIs .departed base (req 7 (eventOctets 3 0)) = true ∧
      eventIs .cancel base (req 7 (eventOctets 4 0)) = true ∧ eventIs .reinstate base (req 7 (eventOctets 5 0)) = true ∧
      (eventOctets 0 5).length = 5 ∧ field2 (eventOctets 0 5) 0 = 100 ∧ field2 (eventOctets 1 5) 3 = 5 ∧
      (withCall call100).eventCall 100 = some (0, call100) ∧ call100.state = .planned ∧ call100.platform = 1 ∧
      (withCall call100.withCancel).eventCall 100 = some (0, call100.withCancel) ∧
      call100.withCancel.state = .cancelled ∧ call100.departed = false := by decide +kernel

/-- 5 minutes against a threshold of 3 (R101, R125). -/
theorem test_delay_late :
    ((after .delay (offer (withCall call100) 7 (eventOctets 0 5))).calls[0]).map (fun c => (c.delay, c.late)) =
      some (some 5, true) := by decide +kernel
theorem test_platform_moves :
    ((after .platform (offer (withCall call100) 7 (eventOctets 1 5))).calls[0]).map
      (fun c => (c.prevPlatform, c.platform, c.changed)) = some (some 1, 5, true) := by decide +kernel
theorem test_arrived : ((after .arrived (offer (withCall call100) 7 (eventOctets 2 0))).calls[0]).map Call.state =
    some .arrived := by decide +kernel
/-- Departure at an INVALID clock: retire 10 minutes after the expected time (R119). -/
theorem test_departed : ((after .departed (offer (withCall call100) 7 (eventOctets 3 0))).calls[0]).map Call.retire =
    some (some (3 * 86400 + 600 * 60 + 600)) := by decide +kernel
theorem test_cancel : ((after .cancel (offer (withCall call100) 7 (eventOctets 4 0))).calls[0]).map Call.retire =
    some (some (3 * 86400 + 600 * 60 + 3600)) := by decide +kernel
theorem test_reinstate :
    ((after .reinstate (offer (withCall { call100.withCancel with trigs := .replicate 6 ⟨.notMet, none⟩ }) 7
      (eventOctets 5 0))).calls[0]).map (fun c => (c.state, (c.trigs[0]).state)) = some (.planned, .pending) := by
  decide +kernel

/-- Call 100 with a queued TIMETABLE announcement of its trigger 2 under handle 0. -/
def amendState : State :=
  { withCall { call100 with trigs := call100.trigs.set 2 ⟨.fired, some 0⟩ } with
    recs := base.recs.set 0 (some { annRec .queued .timetable with callId := some 100, trigger := some 2 })
    seqCounter := 1 }

theorem test_amend_witness :
    (offer amendState 7 (eventOctets 1 5)).quiet = true ∧
      (offer amendState 7 (eventOctets 1 5)).takeable = some (req 7 (eventOctets 1 5)) ∧
      (amendState.recs[0]).map (timetableOf 100) = some true ∧ (amendState.recs[0]).map Rec.state = some .queued ∧
      (amendState.recs[0]).map Rec.trigger = some (some 2) ∧ amendState.restingBut 0 = true ∧
      ((amendState.calls[0]).map fun c => c.trigs[2]) = some ⟨.fired, some 0⟩ ∧
      (((amendState.calls[0]).map fun c => (List.finRange 6).all fun j =>
        decide (j = 2) || decide ((c.trigs[j]).handle = none)) = some true) := by decide +kernel

theorem test_amend :
    let t := after .platform (offer amendState 7 (eventOctets 1 5))
    (t.recs[0]).map Rec.outcome = some (some .amended) ∧ ((t.calls[0]).map fun c => c.trigs[2]) = some ⟨.pending, none⟩ ∧
      t.mp.finished = [0] := by decide +kernel

theorem test_unknown_codes_witness :
    (offer base 7 (eventOctets 6 0)).quiet = true ∧
      (offer base 7 (eventOctets 6 0)).takeable = some (req 7 (eventOctets 6 0)) ∧
      (req 7 (eventOctets 6 0)).type.toNat = TypeCode.callEvent ∧ octet (eventOctets 6 0) 2 = 6 ∧
      (offer base 0x80 []).quiet = true ∧ (offer base 0x80 []).takeable = some (req 0x80 []) ∧
      (req 0x80 []).type.toNat = 128 := by decide +kernel
theorem test_unknown_event : (after .unknownEventCode (offer base 7 (eventOctets 6 0))).mp.outbound =
    [message 7 0 0x80 5 [4]] := by decide +kernel
theorem test_bad_type : (after .badTypeRequest (offer base 0x80 [])).mp.outbound = [message 7 0 0x80 5 [1]] := by
  decide +kernel

/-- Trigger 0 of plan 0 used, at its call's scheduled minute, with condition NEVER; call 100 comes due in RUN, in
CONFIG and too late. -/
def triggerState (device : DeviceState) (second : Nat) : State :=
  { withCall call100 with
    mp := { base.mp with device := device, params := base.mp.params ++ [(0xC00, 0x8100)] }
    clock := ⟨3, second, true⟩ }

theorem test_trigger_witness :
    (triggerState .run 36000).calls[0] = some call100 ∧ (call100.trigs[0]).state = .pending ∧
      (triggerState .run 36000).pointUsed 0 0 = true ∧ call100.plan = 0 ∧
      (triggerState .run 36000).triggerTime call100 0 = ((triggerState .run 36000).clock.seconds : Int) ∧
      (triggerState .run 36121).triggerTime call100 0 < ((triggerState .run 36121).clock.seconds : Int) - 120 ∧
      (triggerState .run 36000).catchUp = 120 ∧
      conditionHolds ((triggerState .run 36000).pointCondition 0 0) call100 = false := by decide +kernel

/-- The same trigger with condition ALWAYS and class INFO, for the concourse: zones 0 and 1, or none. -/
def firingState (concourse : Nat) : State :=
  { withCall call100 with
    mp := { base.mp with
      params := [(0x100, 0x0115), (0x110, 0x0115), (0x2C0, BitVec.ofNat 16 concourse), (0x400, 0x8005), (0xC00, 0x9000), (0xC02, 4)] }
    clock := ⟨3, 36000, true⟩ }

/-- A record of call 100 and template 0 waits in the queue under handle 0. -/
def mergingState : State :=
  { firingState 2 with
    recs := base.recs.set 0 (some { annRec .queued .timetable with
      callId := some 100, requested := 1, effective := 1, validUntil := some 400000 })
    seqCounter := 1 }

/-- A trigger fires a request: a new record, a merge, or MISSED for want of a zone (R50, R112). -/
theorem test_trigger_fires :
    (((firingState 3).evaluateTrigger 0 0).calls[0]).map (fun c => c.trigs[0]) = some ⟨.fired, some 0⟩ ∧
      (((firingState 3).evaluateTrigger 0 0).recs[0]).map (fun x => (x.effective, x.cls, x.state)) = some (3, .info, .queued) ∧
      ((mergingState.evaluateTrigger 0 0).recs[0]).map (fun x => (x.effective, x.validUntil)) = some (3, none) ∧
      (((firingState 0).evaluateTrigger 0 0).calls[0]).map (fun c => c.trigs[0]) = some ⟨.missed, none⟩ := by decide +kernel

theorem test_trigger_judged :
    (((triggerState .run 36000).evaluateTrigger 0 0).calls[0]).map (fun c => (c.trigs[0]).state) = some .notMet ∧
      (((triggerState .config 36000).evaluateTrigger 0 0).calls[0]).map (fun c => (c.trigs[0]).state) = some .suppressed ∧
      (((triggerState .run 36121).evaluateTrigger 0 0).calls[0]).map (fun c => (c.trigs[0]).state) = some .skipped := by
  decide +kernel

/-! ### Announcements and pages -/

/-- The octets of an ANNOUNCE of template 0, class INFO, for zones 0 and 1, valid for ever. -/
def announceOctets : List Byte := [0, 4, 0, 0, 3, 0, 0, 0, 0, 0]

theorem test_announce_evac_witness :
    (offer evacState 8 announceOctets).quiet = true ∧
      (offer evacState 8 announceOctets).takeable = some (req 8 announceOctets) ∧
      (req 8 announceOctets).type.toNat = TypeCode.announce ∧ evacState.mp.device = .evac ∧
      announceClass announceOctets = some .info ∧ evacState.templateEmpty 0 = false ∧
      evacState.formEffective 3 .info ≠ 0 ∧ evacState.freeHandle = some 0 ∧ evacState.restingBut evacHandle = true ∧
      (evacState.recs[63]).map (fun x => (x.isAnnouncement, x.state)) = some (false, .sounding) := by decide +kernel

theorem test_announce_waits :
    ((after .announce (offer evacState 8 announceOctets)).recs[0]).map (fun x => (x.state, x.seq)) = some (.queued, 1) := by
  decide +kernel

theorem test_announce_start_witness :
    (offer base 8 announceOctets).quiet = true ∧
      (offer base 8 announceOctets).takeable = some (req 8 announceOctets) ∧ base.mp.device = .run ∧
      announceClass announceOctets = some .info ∧ base.templateEmpty 0 = false ∧ base.formEffective 3 .info = 3 ∧
      base.freeHandle = some 0 ∧ base.resting = true ∧ base.zonesIdle = true ∧ base.scan.under = none ∧
      base.idleChan = some 0 ∧
      (resolveTemplate base 0 (base.callOfRec (base.announceRec announceOctets .info))).elements.head? =
        some ⟨.gap 5, false⟩ := by decide +kernel

/-- The announcement plays on channel 0 and owns both its zones (R55). -/
theorem test_announce_starts :
    let t := after .announce (offer base 8 announceOctets)
    (t.recs[0]).map (fun x => (x.state, x.channel, x.start)) = some (.playing, some 0, 3) ∧
      t.zones[1].own = .owned ⟨0, 1⟩ none ∧ (t.chans[0]).cur = .gap 800 ∧
      t.mp.outbound = [message 7 0 0x80 5 [0, 0]] := by decide +kernel

theorem test_cancel_witness :
    let s := withRec (annRec .queued .manual)
    (offer s 9 [0]).quiet = true ∧ (offer s 9 [0]).takeable = some (req 9 [0]) ∧
      (req 9 [0]).type.toNat = TypeCode.annCancel ∧ octet [0] 0 = (0 : Handle).val ∧
      (s.recs[0]).map (fun x => (x.state, x.isAnnouncement, x.origin)) = some (.queued, true, .manual) ∧
      s.recs[1] = none ∧ (offer s 9 [1]).takeable = some (req 9 [1]) ∧ (offer s 9 [64]).takeable = some (req 9 [64]) ∧
      (offer evacState 9 [63]).takeable = some (req 9 [63]) ∧ (evacState.recs[63]).map Rec.unfinished = some true ∧
      (offer evacState 9 [63]).quiet = true := by decide +kernel

theorem test_cancel_queued :
    ((after .annCancel (offer (withRec (annRec .queued .manual)) 9 [0])).recs[0]).map Rec.outcome =
      some (some .cancelled) := by decide +kernel

/-- A page with a zone, closed, cancelled or at its hang expiry; a PLAYING announcement, cancelled. -/
theorem test_ending_witness :
    (offer (pageState 9) 11 [0]).quiet = true ∧ (offer (pageState 9) 11 [0]).takeable = some (req 11 [0]) ∧
      (req 11 [0]).type.toNat = TypeCode.pageClose ∧ put1 0 = [0] ∧ (pageState 9).restingBut 0 = true ∧
      ((pageState 9).recs[0]).map (fun x => (x.state, x.origin, x.isPage)) = some (.live, .page, true) ∧
      (pageState 0).quiet = true ∧ (pageState 0).restingBut 0 = true ∧
      ((pageState 0).recs[0]).map Rec.body = some (.page 2 30 0 false) ∧
      ((playingState 0).restingBut 0 = true ∧
        ((playingState 0).recs[0]).map (fun x => (x.state, x.origin)) = some (.playing, .manual)) := by decide +kernel

/-- A page owns zone 0, taken from an announcement that plays on in zone 1. -/
def reservingState : State :=
  { joinedBy (pageState 9) { playingRec 0 with seq := 2, live := 2, detached := 1, start := 2 }
      { Zone.init with own := .owned ⟨0, 1⟩ none, stack := [⟨1, 2⟩] } with
    chans := base.chans.set 0 { Channel.init with state := .running, bound := some ⟨⟨1, 2⟩, .info⟩, cur := .gap 3 } }

/-- An EMERGENCY announcement owns zone 0, taken from a page. -/
def poppingState : State :=
  { joinedBy (withRec { playingRec 0 with cls := .emergency, effective := 1, live := 1, start := 1 })
      { pageRec 2 30 1 1 with seq := 2, detached := 1 }
      { Zone.init with own := .owned ⟨0, 1⟩ none, stack := [⟨1, 2⟩] } with
    chans := base.chans.set 0 { Channel.init with state := .running, bound := some ⟨⟨0, 1⟩, .emergency⟩, cur := .gap 3 } }

/-- A popped stack gives the zone to a PLAYING record by reservation, and to a LIVE page at once (R15). -/
theorem test_ending_pops :
    (after .pageClose (offer reservingState 11 [0])).zones[0].own = .reserved ⟨1, 2⟩ ∧
      (after .annCancel (offer poppingState 9 [0])).zones[0].own = .owned ⟨1, 2⟩ none ∧
      ((after .annCancel (offer poppingState 9 [0])).recs[1]).map Rec.live = some 1 := by decide +kernel

/-- The playing announcement between two frame events. -/
def playingOn : State :=
  { playingState 0 with chans := (playingState 0).chans.set 0 { (playingState 0).chans[0] with cur := .gap 3 } }

theorem test_ending_cancel_witness :
    (offer playingOn 9 [0]).quiet = true ∧ (offer playingOn 9 [0]).takeable = some (req 9 [0]) ∧
      playingOn.restingBut 0 = true := by decide +kernel

theorem test_ending_claims : (∀ (z : ZoneId) y p, (pageState 9).zones[z].own ≠ .owned y (some p)) ∧
    (∀ (z : ZoneId) y p, playingOn.zones[z].own ≠ .owned y (some p)) ∧
    (∀ (z : ZoneId) y p, evacState.zones[z].own ≠ .owned y (some p)) :=
  ⟨no_claims (by decide +kernel), no_claims (by decide +kernel), no_claims (by decide +kernel)⟩

theorem test_page_closes :
    let t := after .pageClose (offer (pageState 9) 11 [0])
    (t.recs[0]).map (fun x => (x.outcome, x.covered)) = some (some .closed, 1) ∧ t.zones[0].own = .free := by
  decide +kernel

theorem test_page_hangs :
    ((after (.pageHangExpiry 2) (pageState 0)).recs[0]).map Rec.outcome = some (some .hang) := by decide +kernel

theorem test_cancel_playing :
    let t := after .annCancel (offer playingOn 9 [0])
    (t.recs[0]).map (fun x => (x.outcome, x.covered)) = some (some .cancelled, 0) ∧ (t.chans[0]).state = .idle ∧
      t.zones[1].own = .free := by decide +kernel

theorem test_completion_witness :
    (playingState 1).quiet = true ∧ (playingState 1).restingBut 0 = true ∧
      ((playingState 1).chans[0]).ended = true ∧ ((playingState 1).chans[0]).bound.map Bound.ref = some ⟨0, 1⟩ ∧
      ((playingState 1).chans[0]).index + 1 = 2 ∧ ((playingState 1).chans[0]).loop = false ∧
      ((playingState 1).recs[0]).map (fun x => (x.state, x.seq, x.repeatMissed, x.list.length, x.channel)) =
        some (.playing, 1, false, 2, some 0) := by decide +kernel

theorem test_completion_claims : ∀ (z : ZoneId) y p, (playingState 1).zones[z].own ≠ .owned y (some p) :=
  no_claims (by decide +kernel)

theorem test_completes :
    let t := after (.elementEnd 0) (playingState 1)
    (t.recs[0]).map (fun x => (x.outcome, x.covered)) = some (some .complete, 3) ∧ (t.chans[0]).endFlag = true := by
  decide +kernel

theorem test_page_open_witness :
    (offer base 10 [2, 0, 0, 1, 200]).quiet = true ∧
      (offer base 10 [2, 0, 0, 1, 200]).takeable = some (req 10 [2, 0, 0, 1, 200]) ∧
      (req 10 [2, 0, 0, 1, 200]).type.toNat = TypeCode.pageOpen ∧ base.formEffective 1 .live ≠ 0 ∧
      base.freeHandle = some 0 ∧ base.resting = true ∧ base.zonesIdle = true := by decide +kernel

/-- A hang time of 200 s is clamped to 120 (R60). -/
theorem test_page_opens :
    let t := after .pageOpen (offer base 10 [2, 0, 0, 1, 200])
    (t.recs[0]).map Rec.body = some (.page 2 120 1920000 false) ∧ t.zones[0].own = .owned ⟨0, 1⟩ none := by
  decide +kernel

/-- The playing announcement, its current element bound or not. -/
def contestedRec (bound : Bool) : Rec := { playingRec 0 with list := [⟨.gap 5, bound⟩, ⟨.gap 7, false⟩] }

/-- It plays in zones 0 and 1. -/
def contested (bound : Bool) : State := { playingOn with recs := base.recs.set 0 (some (contestedRec bound)) }

/-- A page takes a zone at once from an element that is not bound, and waits for the end of one that is (R8, R9, R12).
-/
theorem test_page_contests :
    let t := after .pageOpen (offer (contested false) 10 [2, 0, 0, 1, 200])
    let u := after .pageOpen (offer (contested true) 10 [2, 0, 0, 1, 200])
    t.zones[0].own = .owned ⟨1, 2⟩ none ∧ t.zones[0].stack = [⟨0, 1⟩] ∧
      (t.recs[0]).map (fun x => (x.live, x.detached)) = some (2, 1) ∧
      u.zones[0].own = .owned ⟨0, 1⟩ (some ⟨1, 2⟩) ∧ (u.recs[1]).map Rec.start = some 0 := by decide +kernel

/-! ### Evacuation -/

theorem test_evac_start_witness :
    (offer base 12 [1, 3, 0, 0, 0]).quiet = true ∧
      (offer base 12 [1, 3, 0, 0, 0]).takeable = some (req 12 [1, 3, 0, 0, 0]) ∧
      (req 12 [1, 3, 0, 0, 0]).type.toNat = TypeCode.evacStart ∧ base.mp.device ≠ .evac ∧
      (offer base 12 [0, 0, 0, 0, 1]).takeable = some (req 12 [0, 0, 0, 0, 1]) ∧ base.templateEmpty 0 = false ∧
      base.idleChan = some 0 ∧ hasZone (base.evacZones 1) 0 = true ∧ base.zones[0].own = .free ∧
      (resolveTemplate base 0 none).elements.head? = some ⟨.gap 5, false⟩ := by decide +kernel

/-- An empty mask names all zones; the two enabled ones are taken (section 9.5). -/
theorem test_evac_source :
    let t := after .evacStart (offer base 12 [1, 3, 0, 0, 0])
    (t.recs[63]).map (fun x => (x.state, x.start)) = some (.sounding, 3) ∧ t.mp.prior = some .run := by decide +kernel
theorem test_evac_template :
    let t := after .evacStart (offer base 12 [0, 0, 0, 0, 1])
    (t.recs[63]).map (fun x => (x.state, x.channel)) = some (.playing, some 0) ∧ (t.chans[0]).loop = true := by
  decide +kernel

theorem test_evac_end_witness :
    (offer evacState 13 []).quiet = true ∧ (offer evacState 13 []).takeable = some (req 13 []) ∧
      (req 13 []).type.toNat = TypeCode.evacEnd ∧ evacState.mp.prior = some .run ∧ evacState.restingBut evacHandle = true ∧
      (evacState.recs[63]).map (fun x => (x.seq, x.origin, x.isAnnouncement, x.isPage, x.state)) =
        some (0, .evac, false, false, .sounding) ∧
      (offer base 13 []).takeable = some (req 13 []) ∧ base.mp.device ≠ .evac := by decide +kernel

/-- The RESULT, and then the ANN_DONE: handle 63, origin EVAC, outcome COMPLETE, zones 0 and 1 covered (R166). -/
theorem test_evac_end :
    let t := after .evacEnd (offer evacState 13 [])
    t.mp.outbound = [message 7 0 0x80 5 [0],
      message 0xFF 0 0x81 0 [63, 3, 0, 0, 0xFF, 0, 0, 0, 0, 3, 0, 0, 0, 0xFF]] ∧ t.zones[0].own = .free := by
  decide +kernel

/-! ### Faults and resets -/

/-- Zone 0 tripped by an overload. -/
def trippedState : State := withZone0 { Zone.init with own := .tripped, trip := .overload, overCount := 8, line := .normal }

theorem test_fault_clear_witness :
    (offer trippedState 14 [0, 0, 1]).quiet = true ∧
      (offer trippedState 14 [0, 0, 1]).takeable = some (req 14 [0, 0, 1]) ∧
      (req 14 [0, 0, 1]).type.toNat = TypeCode.faultClear ∧ trippedState.onlyWaiting = true := by decide +kernel

/-- The cleared zone is FREE and, with no round in progress, under test at once (R20, R154). -/
theorem test_fault_clear :
    let t := after .faultClear (offer trippedState 14 [0, 0, 1])
    t.zones[0].own = .free ∧ t.zones[0].trip = .none ∧ t.zones[0].line = .untested ∧
      t.scan.under.map TestRun.zone = some 0 := by decide +kernel

/-- Zone 0 is tripped while an announcement for zones 0 and 1 waits for a channel. -/
def waitingState : State :=
  { trippedState with
    recs := base.recs.set 0 (some (annRec .queued .manual)), seqCounter := 1
    chans := Vector.ofFn fun _ => { Channel.init with state := .running } }

/-- A zone cleared of its trip can no longer be covered by a record that holds it (R20). -/
theorem test_cleared_barred :
    ((after .faultClear (offer waitingState 14 [0, 0, 1])).recs[0]).map (fun x => (x.state, x.barred)) =
      some (.queued, 1) := by decide +kernel

/-- A zone gained through a fallback, or not available at the start, stays out of the start set (R21, R55, R57). -/
theorem test_start_set_bars :
    (((withRec { playingRec 0 with effective := 15, live := 15, barred := 2, late := 4 }).startReport ⟨0, 1⟩).recs[0]).map
      Rec.start = some 9 := by decide +kernel

/-- A page owns zone 0, which is not available to the announcement that starts in zone 1 (R55). -/
theorem test_late_at_start :
    ((after .announce (offer (pageState 9) 8 announceOctets)).recs[1]).map (fun x => (x.live, x.late, x.start)) =
      some (2, 1, 2) := by decide +kernel

theorem test_reset_witness :
    (offer base 15 []).quiet = true ∧ (offer base 15 []).takeable = some (req 15 []) ∧
      (req 15 []).type.toNat = TypeCode.reset ∧
      { base with mp := { base.mp with resetting := true, outbound := [[0]] } }.quiet = true := by decide +kernel

theorem test_reset_waits : (after .reset (offer base 15 [])).mp.resetting = true := by decide +kernel

/-- The RESULT of a RESET has left the Up port. -/
def resetState : State := { pendingState with mp := { pendingState.mp with resetting := true } }

theorem test_soft_reset_witness :
    resetState.pinHeld = false ∧ resetState.work = [] ∧ resetState.passDue = false ∧ resetState.softResetDue = true ∧
      resetState.settled = false := by decide +kernel

/-- The masked device item changed from RUN to CONFIG (R189). -/
theorem test_soft_reset :
    let t := after .softReset resetState
    t.mp.device = .config ∧ t.mp.changes = [(96, 0)] ∧ t.zones[0].own = .free ∧ t.mp.params = resetState.mp.params := by
  decide +kernel

theorem test_reset_pin :
    let t := after .resetPinAssert base
    t.port.highZ = true ∧ (after (.resetPinRelease 0xFF) t).ti.address = 0xFE ∧
      (after (.resetPinRelease 9) t).ti.timerRunning = true := by decide +kernel

/-! ### The trunk -/

/-- A downstream frame with a good sync octet, full scale on S0 and an idle message channel. -/
def downFrame : List Byte := 0xA5 :: 0x7F :: 0xFF :: List.replicate 19 0

/-- An upstream frame with a good sync octet, a CURR word of 500 for zone 0, and NONE for the others. -/
def upFrame : List Byte := 0x5A :: 0x11 :: 0xF4 :: List.replicate 51 0

/-- Three good sync octets seen in each direction. -/
def searchState (align : Align) : State :=
  { base with ti := { Trunk.init with downAlign := align, upAlign := align, downGood := 3, upGood := 3 } }

theorem test_alignment_witness :
    (searchState .search).quiet = true ∧ (searchState .lost).quiet = true ∧ (searchState .lost).nothingDue = true ∧
      ((List.finRange 6).any fun k => ((searchState .lost).chans[k]).loopWait) = false ∧
      downFrame.length = 22 ∧ upFrame.length = 54 ∧ downFrame.head? = some 0xA5 ∧
      (0x5A :: List.replicate 53 0 : List Byte).length = 54 ∧
      (allZones.all fun z => decide (senseType ((senseWords (0x5A :: List.replicate 53 0)).getD z.val 0) = .none)) = true ∧
      (searchState .lost).ti.downGood = 3 ∧ State.reset.quiet = true ∧ State.reset.ti.downGood = 0 := by decide +kernel

theorem test_alignment :
    let t := after (.downstreamFrameArrival downFrame) (searchState .lost)
    t.ti.downAlign = .aligned ∧ t.ti.frameCount = 1 ∧ t.ti.timerRunning = false ∧
      (after (.downstreamFrameArrival downFrame) State.reset).ti.downGood = 1 := by decide +kernel

/-- The base state with so many bad sync octets in a row in either direction. -/
def losingState (bad : Nat) : State := { base with ti := { base.ti with downBad := bad, upBad := bad } }
/-- The page state with two bad downstream sync octets. -/
def losingPage : State := { pageState 9 with ti := { base.ti with downBad := 2 } }

/-- The third bad sync octet ends the open page with LINK_LOST and starts the timer (R169, R170); upstream its frame is
not relayed (R172). -/
theorem test_alignment_lost :
    let t := after (.downstreamFrameArrival (0 :: downFrame.drop 1)) losingPage
    let u := after (.upstreamFrameArrival (0 :: upFrame.drop 1)) (losingState 2)
    t.ti.downAlign = .lost ∧ t.ti.timerRunning = true ∧ t.mp.downLosses = 1 ∧ t.ti.frameCount = 1 ∧
      (t.recs[0]).bind Rec.outcome = some .linkLost ∧ t.zones[0].own = .free ∧
      u.ti.upAlign = .lost ∧ u.mp.upLosses = 1 ∧ u.ti.upSent = [] := by decide +kernel

theorem test_frame_witness :
    base.quiet = true ∧ base.nothingDue = true ∧ ((List.finRange 6).any fun k => (base.chans[k]).loopWait) = false ∧
      base.ti.downAlign = .aligned ∧ (searchState .lost).ti.timerRunning = true := by decide +kernel

/-- A page at unity gain passes its sample unchanged (R35). -/
theorem test_frame_carries_page :
    let t := after (.downstreamFrameArrival (0xA5 :: (List.replicate 4 0 ++ [0x12, 0x34] ++ List.replicate 15 0))) (pageState 9)
    t.ti.downSent.take 5 = [0xA5, 0x12, 0x34, 0, 0] ∧ t.ti.frameCount = 1 := by decide +kernel
theorem test_local_timer : (after .localFrameTimerExpiry (searchState .lost)).ti.frameCount = 1 := by decide +kernel

/-- An announcement plays in zones 0 and 2; zone 1 is FREE and the fallback of zone 0. -/
def fallbackState (x : Zone) : State :=
  { withRec { playingRec 0 with effective := 5, live := 5, start := 5 } with
    mp := { base.mp with params := [(0x100, 0x0115), (0x105, 1), (0x110, 0x0115), (0x120, 0x0115), (0x400, 0x8005)] }
    zones := (base.zones.set 0 { x with own := .owned ⟨0, 1⟩ none }).set 2 { Zone.init with own := .owned ⟨0, 1⟩ none } }

/-- The eighth reading above the threshold trips the zone; its owner loses it and gains its fallback (R19, R21, R144).
-/
theorem test_upstream_trips :
    let t := after (.upstreamFrameArrival upFrame) (fallbackState { Zone.init with overCount := 7 })
    t.zones[0].own = .tripped ∧ t.zones[0].trip = .overload ∧
      (t.recs[0]).map (fun x => (x.live, x.start, x.detached, x.effective)) = some (4, 4, 1, 7) ∧ (t.recs[0]).map Rec.barred = some 2 := by
  decide +kernel

theorem test_upstream_witness :
    base.quiet = true ∧ upFrame.head? = some 0x5A ∧ base.ti.upAlign = .aligned ∧ octet upFrame 1 * 256 + octet upFrame 2 = 0x11F4 ∧
      base.zones[0].trip = .none ∧ base.zones[0].underTripRule = true ∧ base.overcurrent 0 = 400 ∧ base.deglitch 0 = 8 ∧
      min 64 (base.zones[0].overCount + 1) < 8 := by decide +kernel

/-- A reading of 500 against a threshold of 400 (R144). -/
theorem test_upstream_curr : (after (.upstreamFrameArrival upFrame) base).zones[0].overCount = 1 := by decide +kernel
theorem test_upstream_relayed :
    (after (.upstreamFrameArrival upFrame) base).ti.upSent.take 49 = upFrame.take 49 := by decide +kernel

/-- A downstream frame with the last four octets of a TIME_SET from address 7, and its end flag. -/
def lastFrame : List Byte :=
  0xA5 :: (List.replicate 16 0 ++ 0x44 :: (message 0 7 TypeCode.timeSet 5 [0, 3, 0, 0, 9]).drop 8)

/-- A message for the part in reception: its first octets, or so many octets of 0. -/
def receivingState (n : Nat) : State :=
  { base with ti := { base.ti with downRx := ⟨true, if n = 4 then (message 0 7 TypeCode.timeSet 5 [0, 3, 0, 0, 9]).take 8
    else List.replicate n 0, true, false⟩ } }

/-- A good message for the part joins the request buffer; one that runs over is a request error (R173, R174, R177). -/
theorem test_frame_receives :
    (after (.downstreamFrameArrival lastFrame) (receivingState 4)).mp.requests = [⟨0, 7, 4, 5, [0, 3, 0, 0, 9]⟩] ∧
      (after (.downstreamFrameArrival lastFrame) (receivingState 245)).mp.requestErrors = 1 := by decide +kernel

/-- A message for address 3 that starts in this frame is forwarded in the next (R174). -/
theorem test_frame_forwards :
    let t := after (.downstreamFrameArrival (0xA5 :: (List.replicate 16 0 ++ [0x84, 3, 7, 4, 5]))) base
    t.ti.downBuf.map Item.octet = [3, 7, 4, 5] ∧ t.ti.downRx.taken = false ∧
      ((after (.downstreamFrameArrival downFrame) t).ti.downSent.drop 55) = [0x84, 3, 7, 4, 5] := by decide +kernel

/-- The part's own message and a forwarded one wait: after a part message the forwarded one goes first (R178). -/
theorem test_merger_alternates :
    let s := { base with
      ti := { base.ti with upBuf := [⟨9, true, true⟩], lastPart := true }
      mp := { base.mp with outbound := [[1, 2, 3, 4, 5]] } }
    let t := after (.upstreamFrameArrival upFrame) s
    let u := after (.upstreamFrameArrival upFrame) t
    (t.ti.upSent.drop 49).take 2 = [0xC1, 9] ∧ u.ti.upSent.drop 49 = [0x84, 1, 2, 3, 4] ∧
      ((after (.upstreamFrameArrival upFrame) u).ti.upSent.drop 49).take 2 = [0x41, 5] := by decide +kernel

/-- A message whose first octets come with the frame is ready at once (R175, R178): begun before the waiting part
message, it goes out from the next frame on, and the part message after it. -/
theorem test_merger_begins_arriving :
    let s := { base with
      ti := { base.ti with lastPart := true }
      mp := { base.mp with outbound := [[1, 2, 3]] } }
    let t := after (.upstreamFrameArrival (upFrame.take 49 ++ [0xC3, 7, 8, 9, 0])) s
    let u := after (.upstreamFrameArrival upFrame) t
    (t.ti.upSent.drop 49).take 1 = [0] ∧ t.ti.sending = .begun ∧ t.mp.outbound = [[1, 2, 3]] ∧
      (u.ti.upSent.drop 49).take 4 = [0xC3, 7, 8, 9] ∧ u.ti.sending = .none ∧
      ((after (.upstreamFrameArrival upFrame) u).ti.upSent.drop 49).take 4 = [0xC3, 1, 2, 3] := by decide +kernel

/-! ### Events keyed to the frame count -/

/-- A duck step is owed, of a frame event at which a page owned zone 0. -/
def duckState : State := { pageState 9 with owed := ⟨some 1, false, false, false⟩ }
theorem test_duck_witness : { duckState with owed := { duckState.owed with duck := none } }.quiet = true := by decide +kernel
theorem test_duck_step : (after .duckStepEvent duckState).zones[0].duck = 1 := by decide +kernel

/-- Zone 0's background is S1 at -20. It is ducked by 1 in the frame event of count 32 itself (R39, section 2.10.5): eb
is -21, L(-21) is 4891, and 10000 comes out as 10000 * 4891 / 16384, rounded: 2985. A release that follows at once, by
PAGE_CLOSE, finds the duck stepped. -/
theorem test_duck_at_frame :
    let s := { pageState 9 with
      ti := { base.ti with frameCount := 30 }
      mp := { base.mp with params := [(0x100, 0x0115), (0x101, 0), (0x102, 2), (0x103, 0xFFEC), (0x110, 0x0115)] } }
    let f : List Byte := 0xA5 :: 0 :: 0 :: 0x27 :: 0x10 :: List.replicate 17 0
    let t := after (.downstreamFrameArrival f) s
    let u := after (.downstreamFrameArrival f) t
    let v := after .pageClose (offer u 11 [0])
    t.zones[0].duck = 0 ∧ u.ti.frameCount = 32 ∧ (u.ti.downSent.drop 1).take 2 = [0x0B, 0xA9] ∧
      (after .duckStepEvent u).zones[0].duck = 1 ∧ v.zones[0].duck = 1 ∧ v.zones[0].own = .free := by decide +kernel

/-- Zone 0 regulates with r at 23 and a word above; zone 1 stands at r 1 without a word. -/
def limiterState : State :=
  { base with
    owed := ⟨none, true, false, false⟩
    zones := (base.zones.set 0 { Zone.init with
        own := .free, limActive := true, limR := 23, elapsed := 39, aboveSince := .above, appliedMode := .regulateThenTrip }).set 1
      { Zone.init with own := .free, limActive := true, limR := 1, elapsed := 5, appliedMode := .regulateThenMute } }

theorem test_limiter_step_witness : limiterState.quiet = true ∧ limiterState.owed.limiter = true := by decide +kernel

/-- 40 steps are 2 s: zone 0 reaches its timeout, and zone 1 ends regulation (R145, R146). -/
theorem test_limiter_step :
    let t := after .limiterStepEvent limiterState
    t.zones[0].tripOverride = true ∧ t.zones[0].limR = 0 ∧ t.zones[1].limActive = false := by decide +kernel

/-- Zone 0 at its REGULATE_THEN_MUTE timeout of 2 s. -/
def mutingZone : Zone :=
  { Zone.init with limActive := true, limR := 5, elapsed := 39, aboveSince := .above, appliedMode := .regulateThenMute }

/-- A page owns zone 0 at its timeout; zone 1 is FREE and the fallback of zone 0. -/
def mutingPage : State :=
  { pageState 9 with
    mp := (fallbackState mutingZone).mp
    owed := ⟨none, true, false, false⟩
    zones := base.zones.set 0 { mutingZone with own := .owned ⟨0, 1⟩ none } }

/-- The zone trips with LIMIT_TIMEOUT, and the page takes the fallback at once (R22, R146). -/
theorem test_limiter_mutes :
    let t := after .limiterStepEvent mutingPage
    t.zones[0].trip = .limitTimeout ∧ t.zones[1].own = .owned ⟨0, 1⟩ none ∧
      (t.recs[0]).map (fun x => (x.live, x.start, x.effective)) = some (2, 0, 3) := by decide +kernel

theorem test_compensation_step_witness :
    { withZone0 { Zone.init with own := .free, cTarget := 4 } with owed := ⟨none, false, true, false⟩ }.quiet = true := by
  decide +kernel
theorem test_compensation_step :
    (after .compensationStepEvent
      { withZone0 { Zone.init with own := .free, cTarget := 4 } with owed := ⟨none, false, true, false⟩ }).zones[0].comp = 1 := by
  decide +kernel

/-- Call 100 on the last second of a day, its triggers unused. -/
def midnightState : State :=
  { withCall call100 with clock := ⟨65535, 86399, true⟩, owed := ⟨none, false, false, true⟩ }

theorem test_second_witness :
    midnightState.quiet = true ∧ midnightState.clock.valid = true ∧
      ((List.finRange 6).any fun j => midnightState.pointUsed 0 j) = false ∧ call100.retire = none := by decide +kernel

theorem test_second_rolls : (after (.secondEvent true) midnightState).clock = ⟨0, 0, true⟩ := by decide +kernel

/-! ### The line test scan -/

/-- The interval timer has run out. -/
def roundState : State := { base with scan := ⟨false, [], [], none, some 0⟩ }

theorem test_round_witness :
    roundState.quiet = true ∧ (allZones.filter fun y => roundState.enabled y && roundState.lineTestOn y &&
      decide (roundState.zones[y].trip = .none) && decide (roundState.zones[y].line ≠ .openLine) &&
      decide (roundState.zones[y].line ≠ .shortLine)) = [0, 1] ∧ roundState.zones[0].own.hasOwner = false ∧
      (allZones.all fun y => !({ State.reset with scan := roundState.scan }.eligible y)) = true ∧
      { State.reset with scan := roundState.scan }.quiet = true := by decide +kernel

theorem test_round : (after .scanRoundBegin roundState).scan =
    ⟨true, [(0, 0), (1, 0)], [], some ⟨0, 4000, none⟩, none⟩ := by decide +kernel

/-- The test of zone 0 is at its end with the given LOAD value. -/
def testState (load : Option Nat) (count : Nat) : State :=
  { withZone0 { Zone.init with own := .free, noReport := count } with
    scan := ⟨true, [(0, 0), (1, 0)], [], some ⟨0, 0, load⟩, none⟩ }

theorem test_line_test_witness :
    (testState (some 119) 0).quiet = true ∧ (testState none 2).quiet = true ∧
      (testState none 0).nominalLoad 0 * (100 + (testState none 0).tolerance 0) / 100 = 200 ∧
      (testState none 0).nominalLoad 0 * (100 - (testState none 0).tolerance 0) / 100 = 120 ∧
      (testState none 0).isolates 0 = true ∧ (testState none 0).zones[0].own = .free ∧
      (testState none 0).fallback 0 = none ∧ (testState none 0).zones[0].trip = .none := by decide +kernel

/-- The same, where the zone tripped at the event that ended its test (R151). -/
def trippedTest : State :=
  { testState (some 119) 1 with zones := base.zones.set 0 { Zone.init with own := .tripped, trip := .overload, noReport := 1 } }

/-- A SHORT result still sets the line state, and nothing else (R151). -/
theorem test_line_test_tripped :
    (after .lineTestEnd trippedTest).zones[0] =
      { Zone.init with own := .tripped, trip := .overload, noReport := 1, line := .shortLine } := by decide +kernel

/-- 200 and 120 are NORMAL, 201 OPEN, 119 SHORT (R141). -/
theorem test_line_test :
    (after .lineTestEnd (testState (some 200) 1)).zones[0].line = .normal ∧
      (after .lineTestEnd (testState (some 201) 1)).zones[0].line = .openLine ∧
      (after .lineTestEnd (testState (some 120) 1)).zones[0].line = .normal ∧
      (after .lineTestEnd (testState (some 119) 1)).zones[0].own = .tripped ∧
      (after .lineTestEnd (testState none 2)).zones[0].line = .noReport := by decide +kernel

/-! ### Playout -/

/-- Channel 1 plays a compressed8 phrase for an INFO record, channel 4 a linear16 one for a CALL record. -/
def storeState : State :=
  { base with
    chans := (base.chans.set 1
      { Channel.init with
        state := .loading, bound := some ⟨⟨0, 1⟩, .info⟩, cur := .phrase ⟨500, 300, .compressed8⟩ 500 300 300 }).set 4
      { Channel.init with
        state := .loading, bound := some ⟨⟨1, 2⟩, .call⟩, cur := .phrase ⟨0x10203, 40, .linear16⟩ 0x10203 40 40 } }

theorem test_grant_witness :
    storeState.quiet = true ∧ storeState.port.busy = none ∧ (storeState.chans[1]).requests = true ∧
      ((List.finRange 6).all fun k => !(storeState.chans[k]).requests || (storeState.chans[k]).bound.isSome) = true := by
  decide +kernel

/-- The CALL record is the more urgent: 40 samples are 80 octets (R92, R94). -/
theorem test_grant :
    let t := after .burstGrant storeState
    t.port.busy = some ⟨4, 0x10203, 80, 40, false⟩ ∧ t.port.sent = [0x03, 0x01, 0x02, 0x03] := by decide +kernel

/-- A burst of two linear16 samples in flight for channel 0, whose element has two samples. -/
def burstState (void : Bool) : State :=
  { base with
    chans := base.chans.set 0
      { Channel.init with state := .loading, inFlight := true, cur := .phrase ⟨0, 2, .linear16⟩ 4 0 2 }
    port := { Port.init with busy := some ⟨0, 0, 4, 2, void⟩ } }

theorem test_burst_witness :
    (burstState false).quiet = true ∧ (burstState true).quiet = true ∧
      ((burstState true).chans[0]).cur = .phrase ⟨0, 2, .linear16⟩ 4 0 2 := by decide +kernel

/-- Low octet first; two samples are the prefill of an element of two (R76, R82). -/
theorem test_burst :
    let t := after (.burstComplete [0x34, 0x12, 0x78, 0x56]) (burstState false)
    (t.chans[0]).fifo = [0x1234, 0x5678] ∧ (t.chans[0]).state = .running ∧ t.port.busy = none ∧
      ((after (.burstComplete [0x34, 0x12, 0x78, 0x56]) (burstState true)).chans[0]).fifo = [] := by decide +kernel

theorem test_next_element_witness :
    (playingState 0).quiet = true ∧
      ((playingState 0).chans[0]).ended = true ∧ ((playingState 0).chans[0]).bound.map Bound.ref = some ⟨0, 1⟩ ∧
      ((playingState 0).recs[0]).map (fun x => (x.seq, x.state, x.isAnnouncement, decide (x.live = x.effective), x.list[1]?)) =
        some (1, .playing, true, true, some ⟨.gap 7, false⟩) ∧
      (allZones.all fun z => match (playingState 0).zones[z].own with | .reserved _ => false | _ => true) = true := by
  decide +kernel

theorem test_next_element_claims : ∀ (z : ZoneId) y p, (playingState 0).zones[z].own ≠ .owned y (some p) :=
  no_claims (by decide +kernel)

theorem test_next_element :
    let t := after (.elementEnd 0) (playingState 0)
    (t.chans[0]).cur = .gap 1120 ∧ (t.chans[0]).index = 1 ∧ (t.recs[0]).map Rec.index = some 1 := by decide +kernel

/-- A page waits for zone 0 as its pending claim. -/
def claimedState : State :=
  joinedBy (playingState 0) { pageRec 2 30 1 1 with seq := 2 } { Zone.init with own := .owned ⟨0, 1⟩ (some ⟨1, 2⟩) }

/-- Zone 0 is RESERVED for the playing announcement. -/
def reservedState : State :=
  { playingState 0 with
    recs := base.recs.set 0 (some { playingRec 0 with live := 2, detached := 1 })
    zones := (playingState 0).zones.set 0 { Zone.init with own := .reserved ⟨0, 1⟩ } }

/-- At the element's end the claim matures and the owner is pushed; a reservation takes its zone (R10, R17). -/
theorem test_boundary :
    let t := after (.elementEnd 0) claimedState
    let u := after (.elementEnd 0) reservedState
    t.zones[0].own = .owned ⟨1, 2⟩ none ∧ t.zones[0].stack = [⟨0, 1⟩] ∧ (t.recs[1]).map Rec.live = some 1 ∧
      u.zones[0].own = .owned ⟨0, 1⟩ none ∧ (u.recs[0]).map Rec.live = some 3 := by decide +kernel

/-! ### Notices -/

/-- A finished record, a pending item and a flagged call, each with the notices before it gone. -/
def finishedState : State :=
  { withRec { annRec .done .manual with covered := 1, outcome := some .partly } with
    mp := { base.mp with finished := [0] } }

theorem test_notices_witness :
    finishedState.quiet = true ∧ finishedState.mp.resetting = false ∧ finishedState.mp.requests = [] ∧
      finishedState.mp.outbound.length + finishedState.mp.reserved < 16 ∧ finishedState.mp.finished = [0] ∧
      (finishedState.recs[0]).isSome = true ∧ pendingState.quiet = true ∧ pendingState.mp.requests = [] ∧
      pendingState.mp.finished = [] ∧ pendingState.mp.changes ≠ [] ∧ (withCall call100).quiet = true ∧
      (withCall call100).mp.changes = [] ∧ call100.noticePending = true := by decide +kernel

/-- Handle 0, origin MANUAL, no call, no trigger, outcome PARTIAL, not degraded, zone 0 covered, zone 1 missed (R63). -/
theorem test_ann_done :
    (after .annDoneBuild finishedState).mp.outbound =
      [message 0xFF 0 0x81 0 [0, 0, 0, 0, 0xFF, 1, 0, 0, 0, 1, 0, 0, 2, 0xFF]] := by decide +kernel
theorem test_change : (after .changeBuild pendingState).mp.outbound = [message 0xFF 0 0x82 0 [2, 0, 1, 96, 1]] := by
  decide +kernel
theorem test_call_notice :
    (after .callNoticeBuild (withCall call100)).mp.outbound =
      [message 0xFF 0 0x83 0 ([0, 100, 0, 1, 0, 0] ++ (List.replicate 6 [0, 0xFF]).flatten)] := by decide +kernel

/-- The check value of the CRC of R173, for the nine digits. -/
theorem test_crc : crcOf [0x31, 0x32, 0x33, 0x34, 0x35, 0x36, 0x37, 0x38, 0x39] = 0x29B1 := by decide +kernel

/-! ### Witnesses: each statement applied to a state and operands that meet every hypothesis it has -/

/-- Records under other handles than one. -/
theorem other_recs {s : State} {h : Handle} {p : Rec → Prop} [DecidablePred p]
    (d : ((List.finRange 64).all fun j => decide (j = h) || match s.recs[j] with | some x => decide (p x) | none => true) = true) :
    ∀ (j : Handle) x, j ≠ h → s.recs[j] = some x → p x := by
  intro j x n e
  have := List.all_eq_true.mp d j (List.mem_finRange j)
  rw [e] at this
  simpa [n] using this

/-- Every record but two is in DONE. -/
theorem other_two {s : State} {h g : Handle}
    (d : ((List.finRange 64).all fun j => decide (j = h) || decide (j = g) ||
      match s.recs[j] with | some x => decide (x.state = .done) | none => true) = true) :
    ∀ (j : Handle) x, j ≠ h → j ≠ g → s.recs[j] = some x → x.state = .done := by
  intro j x n m e
  have := List.all_eq_true.mp d j (List.mem_finRange j)
  rw [e] at this
  simpa [n, m] using this

theorem test_applies_step (h : Obligations.StepRunsFrontCommand) :
    step { base with pending := [.duckStepEvent] } = exec .duckStepEvent base := h _ _ { base with pending := [.duckStepEvent] } rfl
theorem test_applies_idle (h : Obligations.EmptyQueueIdles) : step base = .next base := h _ rfl
theorem test_applies_device (h : Obligations.DeviceStateMovesByItsCommands) (t : State)
    (e : exec .duckStepEvent base = .next t) : t.mp.device = .run :=
  (h .duckStepEvent base t rfl e nofun nofun nofun nofun nofun).1
theorem test_applies_held (h : Obligations.HeldPinStopsEverything) :
    exec .burstGrant { base with pinHeld := true } = .next { base with pinHeld := true } :=
  h .burstGrant _ rfl nofun nofun
theorem test_applies_params (h : Obligations.ParamsStayCanonical) (t : State)
    (e : step { base with pending := [.duckStepEvent] } = .next t) : t.mp.params.wf = true :=
  h _ t (by decide +kernel) e
theorem test_applies_legal (h : Obligations.ParamsStayLegal) (t : State)
    (e : step { base with pending := [.duckStepEvent] } = .next t) : t.paramsLegal = true :=
  h _ t (by decide +kernel) e
theorem test_applies_stacks (h : Obligations.StacksAndSequencesStaySound) (t : State)
    (e : step { base with pending := [.duckStepEvent] } = .next t) : t.stacksSound = true ∧ t.sequencesSound = true :=
  ⟨h.1 _ t (by decide +kernel) e, h.2 _ t (by decide +kernel) e⟩
theorem test_applies_trunk (h : Obligations.TrunkStaysSound) (t : State)
    (e : step { base with pending := [.duckStepEvent] } = .next t) : t.trunkSound = true :=
  h _ t (by decide +kernel) e
theorem test_applies_changes (h : Obligations.PendingSetStaysMasked) (t : State)
    (e : step { base with pending := [.duckStepEvent] } = .next t) : t.changesSound = true :=
  h _ t (by decide +kernel) e

theorem test_applies_read (h : Obligations.ParamReadReturnsWords) : ∃ t, exec .paramRead (offer base 2 [0, 0, 2]) = .next t :=
  ⟨_, h _ (req 2 [0, 0, 2]) (by decide +kernel) (by show _ = _; decide +kernel) rfl rfl (by decide)⟩
theorem test_applies_write (h : Obligations.PlainWriteStoresWord) :
    ∃ t, exec .paramWrite (offer base 1 (oneWord 0x101 5)) = .next t :=
  ⟨_, ((h _ (req 1 (oneWord 0x101 5)) 0x101 5 (by decide +kernel) (by show _ = _; decide +kernel) ⟨rfl, by decide, rfl⟩
    (by decide +kernel)).2.2 (by decide) (by decide) (by decide +kernel) (by decide) (by decide) (by decide)).1⟩
theorem test_applies_bad_address (h : Obligations.PlainWriteStoresWord) :
    ∃ t, exec .paramWrite (offer base 1 (oneWord 0x10D 5)) = .next t :=
  ⟨_, (h _ (req 1 (oneWord 0x10D 5)) 0x10D 5 (by decide +kernel) (by show _ = _; decide +kernel) ⟨rfl, by decide, rfl⟩
    (by decide +kernel)).1 (by decide)⟩
theorem test_applies_bad_value (h : Obligations.PlainWriteStoresWord) :
    ∃ t, exec .paramWrite (offer base 1 (oneWord 0x100 0x80)) = .next t :=
  ⟨_, (h _ (req 1 (oneWord 0x100 0x80)) 0x100 0x80 (by decide +kernel) (by show _ = _; decide +kernel) ⟨rfl, by decide, rfl⟩
    (by decide +kernel)).2.1 (by decide) (by decide)⟩
theorem test_applies_duck_depth (h : Obligations.PlainWriteStoresWord) :
    ∃ t, exec .duckDepthWrite (offer base 1 (oneWord 0x104 70)) = .next t :=
  ⟨_, ((h _ (req 1 (oneWord 0x104 70)) 0x104 70 (by decide +kernel) (by show _ = _; decide +kernel) ⟨rfl, by decide, rfl⟩
    (by decide +kernel)).2.2 (by decide) (by decide) (by decide +kernel) (by decide) (by decide) (by decide)).1⟩
theorem test_applies_enable (h : Obligations.ZoneEnableWriteFreesZone) :
    ∃ t, exec .zoneEnableWrite (offer base 1 (oneWord 0x120 0x31)) = .next t :=
  (h _ (req 1 (oneWord 0x120 0x31)) 2 0x31 (by decide +kernel) (by show _ = _; decide +kernel) ⟨rfl, by decide, rfl⟩
    (by decide) (by decide +kernel) (by decide +kernel) rfl rfl (by decide +kernel)
    (fun x e => by have : base.evacRec = none := by decide +kernel
                   cases this.symm.trans e)).imp fun _ e => e.1
theorem test_applies_disable (h : Obligations.ZoneDisableWriteVacatesZone) :
    ∃ t, exec .zoneDisableWrite (offer (pageState 9) 1 (oneWord 0x100 0x114)) = .next t :=
  (h _ (req 1 (oneWord 0x100 0x114)) 0 0x114 (by decide +kernel) (by show _ = _; decide +kernel) ⟨rfl, by decide, rfl⟩
    (by decide) (by decide +kernel) (by decide +kernel) rfl (not_choosing (by decide +kernel)) (by decide +kernel)
    (fun r x e f g => by
      cases e
      have : ((pageState 9).recOf ⟨0, 1⟩).map Rec.state = some .live := by decide +kernel
      rw [show (pageState 9).recOf ⟨0, 1⟩ = some x from f] at this
      cases this.symm.trans (congrArg some g))).imp fun _ e => e.1
theorem test_applies_limiter (h : Obligations.LimiterModeWriteStages) :
    ∃ t, exec .limiterModeWrite (offer base 1 (oneWord 0x100 0x135)) = .next t :=
  (h _ (req 1 (oneWord 0x100 0x135)) 0 0x135 (by decide +kernel) (by show _ = _; decide +kernel) ⟨rfl, by decide, rfl⟩
    (by decide) (by decide +kernel) (by decide +kernel) (by decide +kernel)).imp fun _ e => e.1
theorem test_applies_compensation (h : Obligations.CompensationWriteBlanks) :
    ∃ t, exec .compensationWrite (offer base 1 (oneWord 0x10C 3)) = .next t :=
  (h _ (req 1 (oneWord 0x10C 3)) 0 12 3 (by decide +kernel) (by show _ = _; decide +kernel) (by decide)
    ⟨rfl, by decide, rfl⟩ (by decide +kernel)).imp fun _ e => e.1
theorem test_applies_late (h : Obligations.LateThresholdWriteRecomputes) :
    ∃ t, exec .lateThresholdWrite (offer (withCall call100) 1 (oneWord 3 0)) = .next t :=
  (h _ (req 1 (oneWord 3 0)) 0 (by decide +kernel) (by show _ = _; decide +kernel) ⟨rfl, by decide, rfl⟩
    (by decide +kernel)).imp fun _ e => e.1
theorem test_applies_mask (h : Obligations.ChangeMaskWriteDropsItems) :
    ∃ t, exec .changeMaskWrite (offer pendingState 1 (oneWord 0x2106 0)) = .next t :=
  ⟨_, h _ (req 1 (oneWord 0x2106 0)) 6 0 (by decide +kernel) (by show _ = _; decide +kernel) (by decide)
    ⟨rfl, by decide, rfl⟩ (by decide +kernel) (by decide +kernel)⟩
theorem test_applies_clip (h : Obligations.CounterWritesClear) :
    ∃ t, exec .clipCounterClear (offer base 1 (oneWord (clipAddr 0) 0)) = .next t :=
  ⟨_, (h _ (req 1 (oneWord (clipAddr 0) 0)) 0 (by decide +kernel) (by show _ = _; decide +kernel)).1 0
    ⟨rfl, by decide, rfl⟩⟩
theorem test_applies_underrun (h : Obligations.CounterWritesClear) :
    ∃ t, exec .underrunCounterClear (offer base 1 (oneWord (underrunAddr 5) 7)) = .next t :=
  ⟨_, (h _ (req 1 (oneWord (underrunAddr 5) 7)) 7 (by decide +kernel) (by show _ = _; decide +kernel)).2.1 5
    ⟨rfl, by decide, rfl⟩⟩
theorem test_applies_skipped (h : Obligations.CounterWritesClear) :
    ∃ t, exec .skippedCountClear (offer base 1 (oneWord skippedAddr 0)) = .next t :=
  ⟨_, (h _ (req 1 (oneWord skippedAddr 0)) 0 (by decide +kernel) (by show _ = _; decide +kernel)).2.2.1
    ⟨rfl, by decide, rfl⟩⟩
theorem test_applies_link (h : Obligations.CounterWritesClear) :
    ∃ t, exec .linkCounterClear (offer base 1 (oneWord (linkAddr + 5) 0)) = .next t :=
  ⟨_, (h _ (req 1 (oneWord (linkAddr + 5) 0)) 0 (by decide +kernel) (by show _ = _; decide +kernel)).2.2.2 5 (by decide)
    ⟨rfl, by decide, rfl⟩⟩

theorem test_applies_state_set (h : Obligations.StateSetMovesDevice) :
    ∃ t, exec .stateSet (offer maskedState 3 [2]) = .next t ∧ (96, 2) ∈ t.mp.changes :=
  ((h _ (req 3 [2]) (by decide +kernel) (by show _ = _; decide +kernel) rfl rfl).2.2.2.2 .quiet rfl (by decide +kernel)
    (by decide +kernel) (by decide +kernel) (by decide +kernel)).imp fun t e => ⟨e.1, by
      have j := e.2.2.1
      unfold State.itemJoins at j
      rw [if_pos (by decide +kernel)] at j
      exact j.1⟩
theorem test_applies_state_set_evac (h : Obligations.StateSetMovesDevice) :
    ∃ t, exec .stateSet (offer evacState 3 [2]) = .next t :=
  ⟨_, (h _ (req 3 [2]) (by decide +kernel) (by show _ = _; decide +kernel) rfl rfl).2.1 (by decide) rfl⟩
theorem test_applies_time_set (h : Obligations.TimeSetSetsClock) :
    ∃ t, exec .timeSet (offer base 4 [0, 3, 1, 0x51, 0x7F]) = .next t :=
  ((h _ (req 4 [0, 3, 1, 0x51, 0x7F]) (by decide +kernel) (by show _ = _; decide +kernel) rfl rfl).2
    (by decide)).imp fun _ e => e.1

theorem test_applies_call_set (h : Obligations.CallSetCreatesOrReplaces) :
    ∃ t, exec .callSet (offer base 5 callOctets) = .next t :=
  have ⟨_, e, _⟩ := (h (offer base 5 callOctets) (req 5 callOctets) (by decide +kernel) (by show _ = _; decide +kernel)
    rfl rfl).2.2 0 (by decide +kernel)
    (Or.inl ⟨fun j c e => (nomatch calls_all (s := base) (p := fun _ _ => false) (by decide +kernel) j c e),
      by decide +kernel, fun j l => absurd (Fin.lt_def.mp l) (Nat.not_lt_zero _)⟩)
  ⟨_, e⟩
theorem test_applies_call_replace (h : Obligations.CallSetCreatesOrReplaces) :
    ∃ t, exec .callSet (offer (withCall call100) 5 callOctets) = .next t :=
  have ⟨_, e, _⟩ := (h (offer (withCall call100) 5 callOctets) (req 5 callOctets) (by decide +kernel) (by show _ = _; decide +kernel)
    rfl rfl).2.2 0 (by decide +kernel) (Or.inr ⟨by decide +kernel, fun k x e => absurd e (test_no_records k x)⟩)
  ⟨_, e⟩
theorem test_applies_call_delete (h : Obligations.CallDeleteFreesSlot) :
    ∃ t, exec .callDelete (offer (withCall call100) 6 (put2 100)) = .next t :=
  ⟨_, (h _ (req 6 (put2 100)) (by decide +kernel) (by show _ = _; decide +kernel) rfl rfl).2 0 (by decide +kernel)
    fun k x e => absurd e (test_no_records k x)⟩
theorem test_applies_delay (h : Obligations.DelayMovesLateFlag) :
    ∃ t, exec .delay (offer (withCall call100) 7 (eventOctets 0 5)) = .next t :=
  ⟨_, h _ (req 7 (eventOctets 0 5)) 0 call100 (by decide +kernel) (by show _ = _; decide +kernel) (by decide +kernel) rfl
    (by decide +kernel) (by decide +kernel) (some 5) true (by decide +kernel) (by decide +kernel)⟩
theorem test_applies_platform (h : Obligations.PlatformMovesCall) :
    ∃ t, exec .platform (offer (withCall call100) 7 (eventOctets 1 5)) = .next t :=
  ⟨_, (h _ (req 7 (eventOctets 1 5)) 0 call100 (by decide +kernel) (by show _ = _; decide +kernel) (by decide +kernel) rfl
    (by decide +kernel) (by decide +kernel) (by decide) (by decide)).2 (by decide +kernel)
    fun k x e => absurd e (test_no_records k x)⟩
theorem test_applies_amend (h : Obligations.PlatformAmendsQueuedRecord) :
    ∃ t, exec .platform (offer amendState 7 (eventOctets 1 5)) = .next t :=
  ⟨_, h _ (req 7 (eventOctets 1 5)) 0 { call100 with trigs := call100.trigs.set 2 ⟨.fired, some 0⟩ } 0
    { annRec .queued .timetable with callId := some 100, trigger := some 2 } 2 (by decide +kernel)
    (by show _ = _; decide +kernel) (by decide +kernel) rfl (by decide +kernel) (by decide +kernel) (by decide) (by decide)
    (by decide +kernel) (by decide) (by decide +kernel) (by decide +kernel) rfl rfl (by decide +kernel)
    (by decide +kernel) (by decide +kernel)⟩
theorem test_applies_arrived (h : Obligations.ArrivedMovesCall) :
    ∃ t, exec .arrived (offer (withCall call100) 7 (eventOctets 2 0)) = .next t :=
  have ⟨_, _, e, _⟩ := (h (offer (withCall call100) 7 (eventOctets 2 0)) (req 7 (eventOctets 2 0)) 0 call100 (by decide +kernel) (by show _ = _; decide +kernel)
    (by decide +kernel) rfl (by decide +kernel)).1 (by decide +kernel)
  ⟨_, e⟩
theorem test_applies_departed (h : Obligations.DepartedMovesCall) :
    ∃ t, exec .departed (offer (withCall call100) 7 (eventOctets 3 0)) = .next t :=
  ⟨_, (h _ (req 7 (eventOctets 3 0)) 0 call100 (by decide +kernel) (by show _ = _; decide +kernel)
    (by decide +kernel) rfl (by decide +kernel)).1 (by decide +kernel)⟩
theorem test_applies_cancel (h : Obligations.CancelMovesCall) :
    ∃ t, exec .cancel (offer (withCall call100) 7 (eventOctets 4 0)) = .next t :=
  ⟨_, (h _ (req 7 (eventOctets 4 0)) 0 call100 (by decide +kernel) (by show _ = _; decide +kernel)
    (by decide +kernel) rfl (by decide +kernel)).1 (by decide +kernel) fun k x e => absurd e (test_no_records k x)⟩
theorem test_applies_reinstate (h : Obligations.ReinstateRearms) :
    ∃ t, exec .reinstate (offer (withCall call100.withCancel) 7 (eventOctets 5 0)) = .next t :=
  have ⟨_, _, e⟩ := (h (offer (withCall call100.withCancel) 7 (eventOctets 5 0)) (req 7 (eventOctets 5 0)) 0 call100.withCancel (by decide +kernel) (by show _ = _; decide +kernel)
    (by decide +kernel) rfl (by decide +kernel)).1 (by decide +kernel)
  ⟨_, e⟩
theorem test_applies_unknown_event (h : Obligations.UnknownCodesRefused) :
    ∃ t, exec .unknownEventCode (offer base 7 (eventOctets 6 0)) = .next t :=
  ⟨_, (h _ (req 7 (eventOctets 6 0)) (by decide +kernel) (by show _ = _; decide +kernel)).1 rfl rfl (by decide)⟩
theorem test_applies_bad_type (h : Obligations.UnknownCodesRefused) :
    ∃ t, exec .badTypeRequest (offer base 0x80 []) = .next t :=
  ⟨_, (h _ (req 0x80 []) (by decide +kernel) (by show _ = _; decide +kernel)).2 (by decide)⟩
/-- Call 100 with trigger 0 in another state. -/
def firing (s : State) (q : TrigState) (h : Option Handle) (u : State) : State :=
  { u with calls := s.calls.set 0 (some { call100 with trigs := call100.trigs.set 0 ⟨q, h⟩, noticePending := true }) }
theorem test_applies_trigger (h : Obligations.TriggersJudged) :
    ((triggerState .run 36000).evaluateTrigger 0 0).clock = ⟨3, 36000, true⟩ := by
  have e := (h (triggerState .run 36000) 0 call100 0 (by decide +kernel) (by decide +kernel) (by decide +kernel)
    (by decide +kernel) False False (firing (triggerState .run 36000))
    _ _ _ _ _ _ _ (by decide +kernel) (by decide +kernel) (fun _ _ _ => rfl) rfl rfl rfl rfl rfl rfl
    (fun _ => Iff.rfl)).2.2.1 id id (by decide +kernel)
  rw [e]; rfl
theorem test_applies_trigger_missed (h : Obligations.TriggersJudged) :
    (firingState 0).evaluateTrigger 0 0 = firing (firingState 0) .missed none (firingState 0) :=
  ((h (firingState 0) 0 call100 0 (by decide +kernel) (by decide +kernel) (by decide +kernel)
    (by decide +kernel) False False (firing (firingState 0)) _ _ _ _ _ _ _ (by decide +kernel) (by decide +kernel) (fun _ _ _ => rfl) rfl rfl
    rfl rfl rfl rfl (fun _ => Iff.rfl)).2.2.2 id id (by decide +kernel)).1 (by decide +kernel)
theorem test_applies_trigger_fired (h : Obligations.TriggersJudged) :
    ((firingState 3).evaluateTrigger 0 0).seqCounter = 1 := by
  have e := ((((h (firingState 3) 0 call100 0 (by decide +kernel) (by decide +kernel) (by decide +kernel)
    (by decide +kernel) False False (firing (firingState 3)) _ _ _ _ _ _ _ (by decide +kernel) (by decide +kernel) (fun _ _ _ => rfl) rfl rfl
    rfl rfl rfl rfl (fun _ => Iff.rfl)).2.2.2 id id (by decide +kernel)).2 (by decide +kernel) (by decide +kernel)
    (by decide +kernel)).1 fun k x e => absurd e (test_no_records k x)).2 0 (by decide +kernel) (by decide +kernel)
  rw [e]; rfl
theorem test_applies_trigger_merged (h : Obligations.TriggersJudged) :
    (mergingState.evaluateTrigger 0 0).passDue = true := by
  have e := (((h mergingState 0 call100 0 (by decide +kernel) (by decide +kernel) (by decide +kernel)
    (by decide +kernel) False False (firing mergingState) _ _ _ _ _ _ _ (by decide +kernel) (by decide +kernel) (fun _ _ _ => rfl) rfl rfl
    rfl rfl rfl rfl (fun _ => Iff.rfl)).2.2.2 id id (by decide +kernel)).2 (by decide +kernel) (by decide +kernel)
    (by decide +kernel)).2 0 _ rfl (by decide +kernel)
    (fun j y n e t => other_recs (s := mergingState) (h := 0) (p := fun _ => False) (by decide +kernel) j y n e)
  rw [e]; rfl

theorem test_applies_announce_evac (h : Obligations.AnnounceWaitsInEvac) :
    ∃ t, exec .announce (offer evacState 8 announceOctets) = .next t :=
  have ⟨_, _, _, _, _, _, _, e⟩ :=
    h (offer evacState 8 announceOctets) (req 8 announceOctets) .info 0 (by decide +kernel) (by show _ = _; decide +kernel)
    rfl rfl rfl (by decide +kernel) (by decide) (by decide) (by decide +kernel) (by decide +kernel) (by decide +kernel)
    (by decide +kernel) (by decide +kernel)
    (fun x e => recs_all (p := fun _ x => !x.isAnnouncement && decide (x.state ≠ .queued)) (s := evacState)
      (by decide +kernel) evacHandle x e |> fun d => by simpa using d)
  ⟨_, e⟩
theorem test_applies_announce_start (h : Obligations.AnnounceStartsOnIdlePart) :
    ∃ t, exec .announce (offer base 8 announceOctets) = .next t :=
  ((h _ (req 8 announceOctets) .info 0 0 ⟨.gap 5, false⟩ _ _ _ (by decide +kernel) (by show _ = _; decide +kernel) rfl rfl rfl
    (by decide +kernel) (by decide) (by decide +kernel) (by decide +kernel) rfl (by decide +kernel) (by decide +kernel) rfl
    (by decide +kernel) rfl rfl rfl).1 (by decide +kernel) (by decide +kernel) (by decide +kernel)).imp fun _ e => e.1
/-- Every channel is busy; an INFO announcement that has been seized before plays on channel 0 and owns zones 0 and 1.
-/
def busyState (restarts : Nat) : State :=
  { playingOn with
    recs := base.recs.set 0 (some { playingRec 0 with restarts := restarts })
    chans := Vector.ofFn fun k => if k = 0 then playingOn.chans[0] else { Channel.init with state := .running } }
/-- A CALL announcement seizes the channel and takes the zones; at two restarts the victim ends (R54). -/
theorem test_seizes :
    let q : List Byte := [0, 3, 0, 0, 3, 0, 0, 0, 0, 0]
    let t := after .announce (offer (busyState 1) 8 q)
    let u := after .announce (offer (busyState 2) 8 q)
    (t.recs[0]).map (fun x => (x.state, x.restarts)) = some (.queued, 2) ∧
      (t.recs[1]).map (fun x => (x.state, x.channel, x.live)) = some (.playing, some 0, 3) ∧
      (u.recs[0]).map (fun x => (x.state, x.outcome)) = some (.done, some .preempted) ∧ u.mp.finished = [0] := by decide +kernel
theorem test_applies_seizure (h : Obligations.AnnounceStartsOnIdlePart) (n : Fin 3) :
    ∃ t, exec .announce (offer (busyState n.val) 8 [0, 3, 0, 0, 3, 0, 0, 0, 0, 0]) = .next t := by
  have others : ∀ n : Fin 3, ((List.finRange 64).all fun j => decide (j = 0) || ((busyState n.val).recs[j]).isNone) = true := by
    decide +kernel
  have owners : ∀ (n : Fin 3) (z : ZoneId), (busyState n.val).zones[z].own.owner? = some ⟨0, (playingRec 0).seq⟩ →
      (busyState n.val).zones[z].own = .owned ⟨0, (playingRec 0).seq⟩ none ∧ hasZone (playingRec 0).live z = true ∧
        (busyState n.val).zones[z].stack = [] := by decide +kernel
  have claims : ∀ (n : Fin 3) (z : ZoneId), (match (busyState n.val).zones[z].own with
      | .reserved _ => false
      | .owned _ claim => claim.isNone
      | _ => true) = true := by decide +kernel
  have a := (h (offer (busyState n.val) 8 [0, 3, 0, 0, 3, 0, 0, 0, 0, 0]) (req 8 [0, 3, 0, 0, 3, 0, 0, 0, 0, 0]) .call 1 0
    ⟨.gap 5, false⟩ _ _ _ (by revert n; decide +kernel) (by show _ = _; revert n; decide +kernel) rfl rfl rfl
    (by decide +kernel) (by decide) (by revert n; decide +kernel) (Or.inl rfl) rfl (by revert n; decide +kernel)
    (by revert n; decide +kernel) rfl (by revert n; decide +kernel) rfl rfl rfl).2 0
    { playingRec 0 with restarts := n.val } (by revert n; decide +kernel) (by revert n; decide +kernel) rfl (by decide) rfl (Or.inl rfl) rfl rfl
    (show Cls.call.rank < Cls.info.rank by decide)
    (fun j w m e => by have := List.all_eq_true.mp (others n) j (List.mem_finRange j); simp_all [offer])
    (owners n)
    (fun z => ⟨fun e => by have := claims n z; simp_all [offer], fun w e => by have := claims n z; simp_all [offer]⟩)
    (by revert n; decide +kernel) (by revert n; decide +kernel) ⟨0,
      show hasZone (playingRec 0).effective 0 = true by decide +kernel, by revert n; decide +kernel⟩
  exact a.imp fun _ ⟨_, e, _⟩ => e
/-- The base state with element 0 of template 0 a phrase of 200 linear16 samples. -/
def phraseState : State :=
  { base with mp := { base.mp with params := [(0x100, 0x0115), (0x110, 0x0115), (0x400, 3), (0x100F, 200)] } }
theorem test_applies_announce_phrase (h : Obligations.AnnounceStartsOnIdlePart) :
    ∃ t, exec .announce (offer phraseState 8 announceOctets) = .next t :=
  ((h _ (req 8 announceOctets) .info 0 0 ⟨.phrase 3, false⟩ _ _ _ (by decide +kernel) (by show _ = _; decide +kernel) rfl rfl rfl
    (by decide +kernel) (by decide) (by decide +kernel) (by decide +kernel) rfl (by decide +kernel) (by decide +kernel) rfl
    (by decide +kernel) (by decide +kernel) rfl rfl).1 (by decide +kernel) (by decide +kernel) (by decide +kernel)).imp
    fun _ e => e.1
theorem test_applies_cancel_queued (h : Obligations.AnnCancelEndsQueuedRecord) :
    ∃ t, exec .annCancel (offer (withRec (annRec .queued .manual)) 9 [0]) = .next t :=
  ⟨_, ((h _ (req 9 [0]) (by decide +kernel) (by show _ = _; decide +kernel) rfl rfl).2 0 rfl).2.2 (annRec .queued .manual)
    (by decide +kernel) rfl rfl rfl (by decide)⟩
theorem test_applies_ending_closed (h : Obligations.EndingsReleaseZones) :
    ∃ t, exec .pageClose (offer (pageState 9) 11 [0]) = .next t :=
  have ⟨_, _, e, _⟩ := (h (offer (pageState 9) 11 [0]) 0
    { pageRec 2 30 1 1 with seq := 1, live := 1, start := 1, body := .page 2 30 9 false } .pageClose .closed _ (by decide +kernel)
    (by decide +kernel) (by decide) (by decide) (by decide) (no_claims (by decide +kernel))
    (Or.inr (Or.inl ⟨req 11 [0], by show _ = _; decide +kernel, rfl, rfl, rfl, rfl, rfl, rfl⟩))).1 (by decide +kernel)
  ⟨_, e⟩
theorem test_applies_ending_hang (h : Obligations.EndingsReleaseZones) :
    ∃ t, exec (.pageHangExpiry 2) (pageState 0) = .next t :=
  have ⟨_, _, e, _⟩ := (h (pageState 0) 0
    { pageRec 2 30 1 1 with seq := 1, live := 1, start := 1, body := .page 2 30 0 false } (.pageHangExpiry 2) .hang _
    (by decide +kernel) (by decide +kernel) (by decide) (by decide) (by decide)
    (no_claims (by decide +kernel)) (Or.inr (Or.inr ⟨2, 30, false, rfl, rfl, by decide +kernel, rfl, rfl, rfl⟩))).1 (by decide +kernel)
  ⟨_, e⟩
theorem test_applies_ending_cancelled (h : Obligations.EndingsReleaseZones) :
    ∃ t, exec .annCancel (offer playingOn 9 [0]) = .next t :=
  have ⟨_, _, e, _⟩ := (h (offer playingOn 9 [0]) 0 (playingRec 0) .annCancel .cancelled _
    (by decide +kernel) (by decide +kernel) (by decide) (by decide) (by decide)
    (no_claims (by decide +kernel)) (Or.inl ⟨req 9 [0], by show _ = _; decide +kernel, rfl, rfl, rfl, rfl, rfl⟩)).1
    (by decide +kernel)
  ⟨_, e⟩
theorem test_applies_ending_reserves (h : Obligations.EndingsReleaseZones) :
    ∃ t, exec .pageClose (offer reservingState 11 [0]) = .next t :=
  have ⟨_, _, e, _⟩ := ((h (offer reservingState 11 [0]) 0
    { pageRec 2 30 1 1 with seq := 1, live := 1, start := 1, body := .page 2 30 9 false } .pageClose .closed _ (by decide +kernel)
    (by decide +kernel) (by decide) (by decide) (by decide) (no_claims (by decide +kernel))
    (Or.inr (Or.inl ⟨req 11 [0], by show _ = _; decide +kernel, rfl, rfl, rfl, rfl, rfl, rfl⟩))).2 1
    { playingRec 0 with seq := 2, live := 2, detached := 1, start := 2 } 0 [] (by decide) (by decide) (by decide +kernel)
    (fun j y n m f => other_two (by decide +kernel) j y n m f) (by decide +kernel) (by decide +kernel) (by decide +kernel)
    (by decide +kernel)).1 rfl rfl (by decide +kernel)
  ⟨_, e⟩
theorem test_applies_ending_pops_page (h : Obligations.EndingsReleaseZones) :
    ∃ t, exec .annCancel (offer poppingState 9 [0]) = .next t :=
  have ⟨_, _, e, _⟩ := ((h (offer poppingState 9 [0]) 0
    { playingRec 0 with cls := .emergency, effective := 1, live := 1, start := 1 } .annCancel .cancelled _
    (by decide +kernel) (by decide +kernel) (by decide) (by decide) (by decide) (no_claims (by decide +kernel))
    (Or.inl ⟨req 9 [0], by show _ = _; decide +kernel, rfl, rfl, rfl, rfl, rfl⟩)).2 1
    { pageRec 2 30 1 1 with seq := 2, detached := 1 } 0 [] (by decide) (by decide) (by decide +kernel)
    (fun j y n m f => other_two (by decide +kernel) j y n m f) (by decide +kernel) (by decide +kernel) (by decide +kernel)
    (by decide +kernel)).2 rfl rfl
  ⟨_, e⟩
theorem test_applies_completion (h : Obligations.LastElementCompletesRecord) :
    ∃ t, exec (.elementEnd 0) (playingState 1) = .next t :=
  have ⟨_, _, e, _⟩ := (h (playingState 1) 0 (playingRec 1) 0 _ _ _ (by decide +kernel) (by decide +kernel) (by decide) rfl rfl rfl
    rfl (no_claims (by decide +kernel)) (by decide +kernel) (by decide +kernel) (by decide +kernel) (by decide +kernel) rfl
    rfl fun _ => rfl).1 (Or.inl rfl) (by decide +kernel)
  ⟨_, e⟩
/-- An announcement with REPEAT_MISSED ends, zone 1 missed and owned by a page. -/
def missedRec : Rec := { playingRec 1 with repeatMissed := true, live := 1, start := 1 }
/-- The state it stands in. -/
def missedState : State :=
  { playingState 1 with
    recs := (base.recs.set 0 (some missedRec)).set 1 (some { pageRec 2 30 2 2 with seq := 2, live := 2, start := 2 })
    seqCounter := 2
    zones := (playingState 1).zones.set 1 { Zone.init with own := .owned ⟨1, 2⟩ none } }
/-- The repeat waits for the missed zone with the list it carries (R59). -/
theorem test_repeats :
    let t := after (.elementEnd 0) missedState
    (t.recs[0]).map (fun x => (x.outcome, x.repeatHandle)) = some (some .partly, some 2) ∧
      (t.recs[2]).map (fun x => (x.state, x.isRepeat, x.effective, x.list.length)) = some (.queued, true, 2, 2) := by decide +kernel
theorem test_applies_repeat (h : Obligations.LastElementCompletesRecord) : ∃ t, exec (.elementEnd 0) missedState = .next t := by
  have a := (h missedState 0 missedRec 0 2 2 _ (by decide +kernel) rfl (by decide) rfl rfl rfl
    rfl (no_claims (by decide +kernel)) (by decide +kernel) (by decide +kernel) (by decide +kernel) (by decide +kernel)
    (by decide +kernel) (by decide +kernel) fun _ => rfl).2 1 2 { pageRec 2 30 2 2 with seq := 2, live := 2, start := 2 } rfl rfl
    (by decide) (by decide) (by decide) (by decide +kernel) (by decide) (by decide) rfl rfl rfl rfl
    (fun j y n m f => other_two (by decide +kernel) j y n m f) (by decide +kernel) (by decide +kernel)
  exact a.imp fun _ ⟨_, e, _⟩ => e
theorem test_applies_page_open (h : Obligations.PageOpenTakesFreeZones) :
    ∃ t, exec .pageOpen (offer base 10 [2, 0, 0, 1, 200]) = .next t :=
  ((h (offer base 10 [2, 0, 0, 1, 200]) (req 10 [2, 0, 0, 1, 200]) 0 2 (by decide +kernel) (by show _ = _; decide +kernel) rfl rfl rfl
    (by decide +kernel) (by decide +kernel) (by decide +kernel) rfl _ _ rfl fun _ => rfl).2.1 (by decide +kernel)
    (by decide +kernel)).imp fun _ e => e.1
theorem test_applies_page_takes (h : Obligations.PageOpenTakesFreeZones) :
    ∃ t, exec .pageOpen (offer (contested false) 10 [2, 0, 0, 1, 200]) = .next t :=
  ⟨_, ((h (offer (contested false) 10 [2, 0, 0, 1, 200]) (req 10 [2, 0, 0, 1, 200]) 1 2 (by decide +kernel) (by show _ = _; decide +kernel) rfl rfl rfl
    (by decide +kernel) (by decide +kernel) (by decide +kernel) rfl _ _ rfl fun _ => rfl).2.2 0 (contestedRec false) 0
    ⟨.gap 5, false⟩ (by decide +kernel) (by decide +kernel) rfl rfl (by decide) rfl (by decide +kernel) (by decide +kernel)
    (by decide +kernel)).1 rfl⟩
theorem test_applies_page_waits (h : Obligations.PageOpenTakesFreeZones) :
    ∃ t, exec .pageOpen (offer (contested true) 10 [2, 0, 0, 1, 200]) = .next t :=
  ⟨_, ((h (offer (contested true) 10 [2, 0, 0, 1, 200]) (req 10 [2, 0, 0, 1, 200]) 1 2 (by decide +kernel) (by show _ = _; decide +kernel) rfl rfl rfl
    (by decide +kernel) (by decide +kernel) (by decide +kernel) rfl _ _ rfl fun _ => rfl).2.2 0 (contestedRec true) 0
    ⟨.gap 5, true⟩ (by decide +kernel) (by decide +kernel) rfl rfl (by decide) rfl (by decide +kernel) (by decide +kernel)
    (by decide +kernel)).2 rfl⟩

theorem test_applies_evac_source (h : Obligations.EvacStartTakesZones) :
    ∃ t, exec .evacStart (offer base 12 [1, 3, 0, 0, 0]) = .next t :=
  have ⟨_, _, e, _⟩ := (h (offer base 12 [1, 3, 0, 0, 0]) (req 12 [1, 3, 0, 0, 0]) 0 ⟨.gap 5, false⟩ _ _ (by decide +kernel)
    (by show _ = _; decide +kernel) rfl rfl rfl rfl (Or.inl (by decide)) fun _ _ => Iff.rfl).1 (by decide +kernel)
    (by decide +kernel) (by decide +kernel) nofun
  ⟨_, e⟩
theorem test_applies_evac_template (h : Obligations.EvacStartTakesZones) :
    ∃ t, exec .evacStart (offer base 12 [0, 0, 0, 0, 1]) = .next t :=
  have ⟨_, _, e, _⟩ := (h (offer base 12 [0, 0, 0, 0, 1]) (req 12 [0, 0, 0, 0, 1]) 0 ⟨.gap 5, false⟩ _ _ (by decide +kernel)
    (by show _ = _; decide +kernel) rfl rfl rfl rfl
    (Or.inr ⟨rfl, by decide, by decide +kernel, ⟨0, by decide +kernel, Or.inl (by decide +kernel)⟩, by decide +kernel, rfl⟩)
    fun _ _ => Iff.rfl).1 (by decide +kernel) (by decide +kernel) (by decide +kernel) fun _ => by decide +kernel
  ⟨_, e⟩
/-- A second EVAC_START names zone 0 alone: zone 1 is FREE, and prior state stays (R165). -/
theorem test_replaces :
    let t := after .evacStart (offer evacState 12 [1, 3, 0, 0, 1])
    let u := after .evacStart (offer evacState 12 [0, 0, 0, 0, 1])
    (t.recs[63]).map (fun x => (x.body, x.live, x.start)) = some (.evacSource 3, 1, 1) ∧ t.zones[1].own = .free ∧
      t.mp.prior = some .run ∧ (u.recs[63]).map (fun x => (x.state, x.channel)) = some (.playing, some 0) := by decide +kernel
theorem test_applies_replacement (h : Obligations.EvacStartTakesZones) (mode : Bool) :
    ∃ t, exec .evacStart (offer evacState 12 [if mode then 1 else 0, 0, 0, 0, 1]) = .next t := by
  have a := (h (offer evacState 12 [if mode then 1 else 0, 0, 0, 0, 1]) (req 12 [if mode then 1 else 0, 0, 0, 0, 1]) 0
    ⟨.gap 5, false⟩ _ _ (by revert mode; decide +kernel) (by show _ = _; revert mode; decide +kernel) rfl rfl rfl rfl
    (match mode with
      | true => Or.inl (by decide)
      | false => Or.inr ⟨rfl, by decide, by decide +kernel, ⟨0, by decide +kernel, Or.inr (by decide +kernel)⟩,
        by decide +kernel, rfl⟩) fun _ _ => Iff.rfl).2
    { evacRecord (.evacSource 1) 0 3 with live := 3, start := 3 } rfl (by revert mode; decide +kernel) rfl rfl rfl rfl rfl
    (by revert mode; decide +kernel) (by revert mode; decide +kernel) (by revert mode; decide +kernel)
    (by revert mode; decide +kernel) (Or.inl ⟨rfl, Or.inl rfl⟩) (fun _ _ => by revert mode; decide +kernel)
  exact a.imp fun _ ⟨_, e, _⟩ => e
/-- Step 2 of EVAC_START ends a page without zones, a cause of the pass, which starts a waiting EMERGENCY record
(R161). -/
theorem test_evac_start_passes :
    let s := { withRec { pageRec 2 30 1 1 with seq := 1, body := .page 2 30 9 false } with
      recs := (base.recs.set 0 (some { pageRec 2 30 1 1 with seq := 1, body := .page 2 30 9 false })).set 1
        (some { annRec .queued .manual with seq := 2, cls := .emergency, requested := 2, effective := 2 }) }
    let t := after .evacStart (offer s 12 [1, 3, 0, 0, 1])
    (t.recs[1]).map (fun x => (x.state, x.live)) = some (.playing, 2) := by decide +kernel
theorem test_applies_evac_end (h : Obligations.EvacEndRestores) :
    ∃ t, exec .evacEnd (offer evacState 13 []) = .next t :=
  have ⟨_, e, _⟩ := (h (offer evacState 13 []) (req 13 []) (by decide +kernel) (by show _ = _; decide +kernel) rfl rfl).2
    { evacRecord (.evacSource 1) 0 3 with live := 3, start := 3 } .run rfl rfl (by decide) (by decide +kernel) rfl rfl rfl
    rfl (by decide) (by decide +kernel) (no_claims (by decide +kernel))
  ⟨_, e⟩
theorem test_applies_evac_end_outside (h : Obligations.EvacEndRestores) :
    ∃ t, exec .evacEnd (offer base 13 []) = .next t :=
  ⟨_, (h (offer base 13 []) (req 13 []) (by decide +kernel) (by show _ = _; decide +kernel) rfl rfl).1 (by decide +kernel)⟩

theorem test_applies_fault_clear (h : Obligations.FaultClearClearsZones) :
    ∃ t, exec .faultClear (offer trippedState 14 [0, 0, 1]) = .next t ∧ t.scan.clearList = [(0, 0)] :=
  have ⟨t, e, _, _, c, _⟩ := h (offer trippedState 14 [0, 0, 1]) (req 14 [0, 0, 1]) (by decide +kernel) (by show _ = _; decide +kernel) rfl rfl
    (by decide +kernel)
  ⟨t, e, by rw [((c [0] [(0, 0)] [] (by decide +kernel) rfl).2.2 rfl rfl rfl).2 0 rfl rfl]⟩
theorem test_applies_fault_clear_waiting (h : Obligations.FaultClearClearsZones) :
    ∃ t, exec .faultClear (offer waitingState 14 [0, 0, 1]) = .next t ∧
      t.recs[(0 : Handle)] = some { annRec .queued .manual with barred := 1 } :=
  have ⟨t, e, c, _⟩ := h (offer waitingState 14 [0, 0, 1]) (req 14 [0, 0, 1]) (by decide +kernel)
    (by show _ = _; decide +kernel) rfl rfl (by decide +kernel)
  ⟨t, e, (c 1 (by decide +kernel) 0).trans (by decide +kernel)⟩
/-- A round is in progress, zone 1 under test and zone 0 tripped. -/
def clearingState (round : Bool) : State :=
  { trippedState with scan :=
    ⟨round, if round then [(1, 0)] else [], if round then [] else [(1, 0)], some ⟨1, 9, none⟩, if round then none else some 9⟩ }
/-- A zone cleared in a round goes to its head; one cleared outside a round goes to the clear list's end (R154). -/
theorem test_applies_placing (h : Obligations.FaultClearClearsZones) (round : Bool) :
    ∃ t, exec .faultClear (offer (clearingState round) 14 [0, 0, 1]) = .next t ∧
      (t.scan.roundList, t.scan.clearList) = if round then ([(0, 0), (1, 0)], []) else ([], [(1, 0), (0, 0)]) := by
  have l : ∀ r, [0] = allZones.filter fun z => hasZone (maskAt [0, 0, 1] 0) z &&
      (offer (clearingState r) 14 [0, 0, 1]).enabled z && (offer (clearingState r) 14 [0, 0, 1]).lineTestOn z := by
    decide +kernel
  obtain ⟨t, e, _, _, c, _⟩ := h (offer (clearingState round) 14 [0, 0, 1]) (req 14 [0, 0, 1])
    (by revert round; decide +kernel) (by show _ = _; revert round; decide +kernel) rfl rfl (by revert round; decide +kernel)
  have d := (c [0] [(0, 0)] [(1, 0)] (l round) rfl).1 ⟨1, 9, none⟩ rfl (by decide +kernel)
  refine ⟨t, e, ?_⟩
  cases round with
  | true => rw [d.1 rfl (by decide +kernel)]; rfl
  | false => rw [d.2 rfl (by decide +kernel)]; rfl
/-- The zone under test is cleared, with the mask naming no zone below it: its test begins afresh (R140). -/
theorem test_applies_afresh (h : Obligations.FaultClearClearsZones) :
    ∃ t, exec .faultClear (offer (clearingState true) 14 [0, 0, 2]) = .next t ∧ t.scan.under = some ⟨1, 4000, none⟩ :=
  have ⟨t, e, _, _, c, _⟩ := h (offer (clearingState true) 14 [0, 0, 2]) (req 14 [0, 0, 2]) (by decide +kernel)
    (by show _ = _; decide +kernel) rfl rfl (by decide +kernel)
  ⟨t, e, by rw [(c [1] [(1, 0)] [] (by decide +kernel) rfl).2.1 ⟨1, 9, none⟩ rfl rfl rfl rfl (by decide +kernel)]⟩
theorem test_applies_reset (h : Obligations.ResetStopsRequestsAndNotices) :
    ∃ t, exec .reset (offer base 15 []) = .next t :=
  ⟨_, h.1 (offer base 15 []) (req 15 []) (by decide +kernel) (by show _ = _; decide +kernel) rfl rfl⟩
theorem test_applies_resetting (h : Obligations.ResetStopsRequestsAndNotices) :
    ∃ t, exec .annDoneBuild { base with mp := { base.mp with resetting := true, outbound := [[0]] } } = .next t :=
  ⟨_, h.2 .annDoneBuild _ (by decide +kernel) rfl (by decide)⟩
theorem test_applies_soft_reset (h : Obligations.SoftResetTakesResetValues) : ∃ t, exec .softReset resetState = .next t :=
  (h resetState rfl rfl rfl (by decide +kernel)).imp fun _ e => e.1
theorem test_applies_release (h : Obligations.ResetPinPowersOn) :
    ∃ t, exec (.resetPinRelease 0xFF) { base with pinHeld := true } = .next t :=
  ⟨_, h.2.1 { base with pinHeld := true } 0xFF rfl⟩
theorem test_applies_release_not_held (h : Obligations.ResetPinPowersOn) :
    exec (.resetPinRelease 0xFF) base = .next base := h.2.2 base 0xFF rfl

theorem test_applies_align_down (h : Obligations.AlignmentMovesBySyncOctets) :
    ∃ t, exec (.downstreamFrameArrival downFrame) (searchState .lost) = .next t :=
  (((h (searchState .lost) downFrame (by decide +kernel)).1 (by decide) (by decide +kernel)).2.2 rfl rfl (by decide +kernel)
    (by decide +kernel)).imp fun _ e => e.1
theorem test_applies_align_up (h : Obligations.AlignmentMovesBySyncOctets) :
    ∃ t, exec (.upstreamFrameArrival (0x5A :: List.replicate 53 0)) (searchState .search) = .next t :=
  (((h (searchState .search) (0x5A :: List.replicate 53 0) (by decide +kernel)).2.1 (by decide +kernel) (by decide +kernel)).2.2
    rfl rfl (by decide +kernel)).imp fun _ e => e.1
theorem test_applies_bad_sync (h : Obligations.AlignmentMovesBySyncOctets) :
    ∃ t, exec (.downstreamFrameArrival (0 :: downFrame.drop 1)) (losingState 1) = .next t ∧ t.ti.downBad = 2 :=
  have ⟨_, _, _, e, _⟩ := (h (losingState 1) (0 :: downFrame.drop 1) (by decide +kernel)).2.2.1 rfl rfl (by decide)
    (by decide +kernel) (by decide +kernel)
  ⟨_, e (by decide), rfl⟩
theorem test_applies_holdover (h : Obligations.AlignmentMovesBySyncOctets) :
    ∃ t, exec (.downstreamFrameArrival (0 :: downFrame.drop 1)) (losingState 2) = .next t :=
  have ⟨_, _, _, _, _, e, _⟩ := (h (losingState 2) (0 :: downFrame.drop 1) (by decide +kernel)).2.2.1 rfl rfl (by decide)
    (by decide +kernel) (by decide +kernel)
  (e rfl fun k x f => absurd f (test_no_records k x)).imp fun _ g => g.1
theorem test_applies_link_lost (h : Obligations.AlignmentMovesBySyncOctets) :
    ∃ t, exec (.downstreamFrameArrival (0 :: downFrame.drop 1)) losingPage = .next t :=
  have ⟨_, _, _, _, _, _, e⟩ := (h losingPage (0 :: downFrame.drop 1) (by decide +kernel)).2.2.1 rfl rfl (by decide)
    (by decide +kernel) (by decide +kernel)
  have ⟨_, _, t, _, g, _⟩ := e 0 { pageRec 2 30 1 1 with seq := 1, live := 1, start := 1, body := .page 2 30 9 false } rfl
    (by decide +kernel) rfl rfl rfl (by decide) (by decide +kernel) (no_claims (by decide +kernel))
  ⟨t, g⟩
theorem test_applies_bad_upstream (h : Obligations.AlignmentMovesBySyncOctets) :
    ∃ t, exec (.upstreamFrameArrival (List.replicate 54 0)) (losingState 1) = .next t ∧ t.ti.upBad = 2 :=
  have ⟨_, _, e⟩ := ((h (losingState 1) (List.replicate 54 0) (by decide +kernel)).2.2.2 rfl rfl (by decide)
    (by decide +kernel)).1 (by decide)
  ⟨_, e, rfl⟩
theorem test_applies_upstream_lost (h : Obligations.AlignmentMovesBySyncOctets) :
    ∃ t, exec (.upstreamFrameArrival (List.replicate 54 0)) (losingState 2) = .next t :=
  (((h (losingState 2) (List.replicate 54 0) (by decide +kernel)).2.2.2 rfl rfl (by decide)
    (by decide +kernel)).2 rfl).imp fun _ e => e.1
theorem test_applies_local_timer (h : Obligations.FrameEventSendsFrame) :
    ∃ t, exec .localFrameTimerExpiry (searchState .lost) = .next t :=
  (h (searchState .lost) _ _ _ _ .localFrameTimerExpiry (List.replicate 8 0) none (by decide +kernel) (by decide +kernel)
    (by decide +kernel) (Or.inl ⟨rfl, rfl, rfl, rfl⟩) (fun _ => rfl) (fun _ => rfl) (fun _ => rfl) rfl).imp
    fun _ ⟨_, e, _⟩ => e
theorem test_applies_frame (h : Obligations.FrameEventSendsFrame) :
    ∃ t, exec (.downstreamFrameArrival downFrame) base = .next t :=
  (h base _ _ _ _ (.downstreamFrameArrival downFrame) (wordsAt downFrame 1 8) _ (by decide +kernel) (by decide +kernel)
    (by decide +kernel) (Or.inr ⟨downFrame, rfl, by decide, rfl, rfl, rfl, rfl⟩) (fun _ => rfl) (fun _ => rfl)
    (fun _ => rfl) rfl).imp fun _ ⟨_, e, _⟩ => e
theorem test_applies_frame_message (h : Obligations.FrameEventSendsFrame) :
    ∃ t, exec (.downstreamFrameArrival lastFrame) (receivingState 4) = .next t ∧ t.mp.requests.length = 1 :=
  have ⟨t, _, e, _, _, _, _, _, _, _, _, m, _⟩ := h (receivingState 4) _ _ _ _ (.downstreamFrameArrival lastFrame) (wordsAt lastFrame 1 8) _
    (by decide +kernel) (by decide +kernel) (by decide +kernel)
    (Or.inr ⟨lastFrame, rfl, by decide, rfl, rfl, rfl, rfl⟩) (fun _ => rfl) (fun _ => rfl) (fun _ => rfl) rfl
  have r := ((m _ _ _ _ _ _ rfl rfl rfl rfl rfl rfl).1 (by decide +kernel)).2.2.2.1
  ⟨t, e, by rw [r]; decide +kernel⟩
theorem test_applies_frame_overrun (h : Obligations.FrameEventSendsFrame) :
    ∃ t, exec (.downstreamFrameArrival lastFrame) (receivingState 245) = .next t ∧ t.mp.requestErrors = 1 :=
  have ⟨t, _, e, _, _, _, _, _, _, _, _, m, _⟩ := h (receivingState 245) _ _ _ _ (.downstreamFrameArrival lastFrame) (wordsAt lastFrame 1 8) _
    (by decide +kernel) (by decide +kernel) (by decide +kernel)
    (Or.inr ⟨lastFrame, rfl, by decide, rfl, rfl, rfl, rfl⟩) (fun _ => rfl) (fun _ => rfl) (fun _ => rfl) rfl
  have r := ((m _ _ _ _ _ _ rfl rfl rfl rfl rfl rfl).2 (by decide +kernel) (by decide +kernel) (by decide +kernel)).2.2.2.1
  ⟨t, e, by rw [r]; decide +kernel⟩
theorem test_applies_frame_page (h : Obligations.FrameEventSendsFrame) :
    ∃ t, exec (.downstreamFrameArrival downFrame) (pageState 9) = .next t ∧ ((t.recs[(0 : Handle)]).map Rec.body) =
      some (.page 2 30 8 false) :=
  have ⟨t, _, e, _, _, _, _, _, _, _, _, _, _, _, _, _, p, _⟩ := h (pageState 9) _ _ _ _ (.downstreamFrameArrival downFrame)
    (wordsAt downFrame 1 8) _ (by decide +kernel) (by decide +kernel) (by decide +kernel)
    (Or.inr ⟨downFrame, rfl, by decide, rfl, rfl, rfl, rfl⟩) (fun _ => rfl) (fun _ => rfl) (fun _ => rfl) rfl
  ⟨t, e, by rw [p 0 _ 2 30 9 false _ rfl rfl rfl rfl]; decide +kernel⟩
theorem test_applies_frame_duck (h : Obligations.FrameEventSendsFrame) :
    ∃ t o, exec (.downstreamFrameArrival downFrame) { base with ti := { base.ti with frameCount := 31 } } = .next t ∧
      t.owed = ⟨some o, false, false, false⟩ :=
  have ⟨t, o, e, n, _, w, _⟩ := h { base with ti := { base.ti with frameCount := 31 } } _ _ _ _
    (.downstreamFrameArrival downFrame) (wordsAt downFrame 1 8) _ (by decide +kernel) (by decide +kernel)
    (by decide +kernel) (Or.inr ⟨downFrame, rfl, by decide, rfl, rfl, rfl, rfl⟩) (fun _ => rfl) (fun _ => rfl)
    (fun _ => rfl) rfl
  ⟨t, o, e, by rw [w, n]; rfl⟩
theorem test_applies_upstream (h : Obligations.UpstreamFrameRelayedAndSensed) :
    ∃ t, exec (.upstreamFrameArrival upFrame) base = .next t :=
  (h base upFrame (by decide +kernel) (by decide +kernel) rfl rfl
    (fun z => BitVec.ofNat 16 (octet upFrame (1 + 2 * z.val) * 256 + octet upFrame (2 + 2 * z.val))) (fun _ => rfl)
    none (by decide +kernel) (fun _ e => nomatch e)).imp fun _ e => e.1
/-- A trip whose whole effect the statements give. -/
theorem plain_trip {s : State} {z : ZoneId}
    (a : (match s.zones[z].own with | .choosing _ _ => false | _ => true) = true)
    (b : (match s.zones[z].own.owner? with
      | some r => (match s.recOf r with | some x => decide (x.state ≠ .playing) || decide (withoutZone x.live z ≠ 0) | none => true)
      | none => true) = true)
    (c : ((List.finRange 64).all fun h => match s.recs[h] with
      | some x => !s.gains z x || (!x.isPage && decide (h ≠ evacHandle)) | none => true) = true) : s.plainTrip z :=
  ⟨not_choosing a, fun r x o e p => by rw [o] at b; simp only [e] at b; simpa [p] using b,
    fun h x e g => by have := recs_all (p := fun h x => !s.gains z x || (!x.isPage && decide (h ≠ evacHandle))) c h x e; simpa [g] using this⟩
theorem test_applies_overload (h : Obligations.UpstreamFrameRelayedAndSensed) :
    ∃ t, exec (.upstreamFrameArrival upFrame) (fallbackState { Zone.init with overCount := 7 }) = .next t :=
  (h (fallbackState { Zone.init with overCount := 7 }) upFrame (by decide +kernel) (by decide +kernel) rfl rfl
    (fun z => BitVec.ofNat 16 (octet upFrame (1 + 2 * z.val) * 256 + octet upFrame (2 + 2 * z.val))) (fun _ => rfl)
    (some 0) (by decide +kernel) (fun z e => by
      cases e; exact ⟨plain_trip (by decide +kernel) (by decide +kernel) (by decide +kernel), by decide +kernel⟩)).imp
    fun _ e => e.1

theorem test_applies_duck (h : Obligations.DuckStepMovesDucks) : ∃ t, exec .duckStepEvent duckState = .next t :=
  (h.1 duckState 1 test_duck_witness rfl).imp fun _ e => e.1
theorem test_applies_duck_first (h : Obligations.DuckStepMovesDucks) :
    ∃ t, exec .duckStepEvent duckState = .next t ∧ exec .burstGrant duckState = exec .burstGrant t :=
  (h.1 duckState 1 test_duck_witness rfl).imp fun _ e => ⟨e.1, e.2.2.2 .burstGrant nofun nofun⟩
theorem test_applies_no_duck (h : Obligations.DuckStepMovesDucks) : exec .duckStepEvent base = .next base :=
  h.2 base (by decide +kernel)
theorem test_applies_limiter_step (h : Obligations.LimiterStepMovesReduction) :
    ∃ t, exec .limiterStepEvent limiterState = .next t :=
  ((h limiterState _ _ _ _ none (by decide +kernel) rfl (fun _ => rfl) (fun _ => rfl) (fun _ => rfl) (by decide +kernel)
    (fun _ => rfl)).1 (fun _ e => nomatch e)).imp fun _ e => e.1
theorem test_applies_limit_timeout (h : Obligations.LimiterStepMovesReduction) :
    ∃ t, exec .limiterStepEvent { fallbackState mutingZone with owed := ⟨none, true, false, false⟩ } = .next t :=
  ((h { fallbackState mutingZone with owed := ⟨none, true, false, false⟩ } _ _ _ _ (some 0) (by decide +kernel) rfl
    (fun _ => rfl) (fun _ => rfl) (fun _ => rfl) (by decide +kernel) (fun _ => rfl)).1 (fun z e => by
      cases e; exact ⟨plain_trip (by decide +kernel) (by decide +kernel) (by decide +kernel), by decide +kernel⟩)).imp
    fun _ e => e.1
theorem test_applies_page_fallback (h : Obligations.LimiterStepMovesReduction) :
    ∃ t, exec .limiterStepEvent mutingPage = .next t := by
  have a := (h mutingPage _ _ _ _ (some 0) (by decide +kernel) rfl (fun _ => rfl) (fun _ => rfl) (fun _ => rfl)
    (by decide +kernel) fun _ => rfl).2 0 1 0
    { pageRec 2 30 1 1 with seq := 1, live := 1, start := 1, body := .page 2 30 9 false } rfl
  refine (a ?_ rfl rfl ?_ ?_ ?_ ?_ ?_ ?_ ?_ ?_ ?_ ?_ ?_).imp fun _ e => e.1 <;> decide +kernel
theorem test_applies_compensation_step (h : Obligations.CompensationStepMovesC) :
    ∃ t, exec .compensationStepEvent { base with owed := ⟨none, false, true, false⟩ } = .next t :=
  (h { base with owed := ⟨none, false, true, false⟩ } _ (by decide +kernel) rfl fun _ => rfl).imp fun _ e => e.1
theorem test_applies_second (h : Obligations.SecondEventAdvancesClock) :
    ∃ t, exec (.secondEvent true) midnightState = .next t :=
  ((h midnightState true ⟨0, 0, true⟩ _ (by decide +kernel) rfl (by decide +kernel) fun _ _ => Iff.rfl).2 none fun _ =>
    ⟨fun i j ⟨c, e, _, u, _⟩ => by
        have := calls_all (s := midnightState)
          (p := fun _ c => (List.finRange 6).all fun j => !midnightState.pointUsed c.plan j) (by decide +kernel) i c e
        simp at this
        exact absurd u (by simp [this j]),
      fun k x e => absurd e (test_no_records k x), fun _ e => nomatch e⟩).imp fun _ e => e.1
/-- An announcement waits whose valid-until is the midnight before the second to come. -/
def staleState : State :=
  { withRec { annRec .queued .manual with validUntil := some 86400 } with
    clock := ⟨1, 0, true⟩, owed := ⟨none, false, false, true⟩ }
theorem test_second_stale : ((after (.secondEvent false) staleState).recs[0]).bind Rec.outcome = some .stale := by decide +kernel
theorem test_applies_second_stale (h : Obligations.SecondEventAdvancesClock) :
    ∃ t, exec (.secondEvent false) staleState = .next t :=
  ((h staleState false ⟨1, 1, true⟩ _ (by decide +kernel) rfl (by decide +kernel) fun _ _ => Iff.rfl).2 (some 0) fun _ =>
    ⟨fun i j ⟨c, e, _⟩ => by
        have := calls_all (s := staleState) (p := fun _ _ => false) (by decide +kernel) i c e
        exact absurd this (by decide),
      fun k x e => by
        have d := recs_all (s := staleState)
          (p := fun k x => decide (k = 0) && decide (x = { annRec .queued .manual with validUntil := some 86400 }))
          (by decide +kernel) k x e
        simp only [Bool.and_eq_true, decide_eq_true_eq] at d
        obtain ⟨rfl, rfl⟩ := d
        exact ⟨fun _ => rfl, fun _ => ⟨rfl, 86400, rfl, by decide⟩⟩,
      fun k e => by cases e; exact ⟨by decide, _, rfl, rfl, rfl⟩⟩).imp fun _ e => e.1
theorem test_applies_second_invalid (h : Obligations.SecondEventAdvancesClock) :
    ∃ t, exec (.secondEvent false) { withCall call100 with owed := ⟨none, false, false, true⟩ } = .next t :=
  ((h { withCall call100 with owed := ⟨none, false, false, true⟩ } false ⟨0, 0, false⟩ _ (by decide +kernel) rfl rfl
    fun _ _ => Iff.rfl).2 none fun e => nomatch e).imp fun _ e => e.1
/-- The second before the trigger of `firingState`. -/
def dueState : State := { firingState 3 with clock := ⟨3, 35999, true⟩, owed := ⟨none, false, false, true⟩ }
/-- The second event fires the trigger, and the admission pass starts the record (R53, R110). -/
theorem test_second_fires :
    let t := after (.secondEvent true) dueState
    (t.calls[0]).map (fun c => c.trigs[0]) = some ⟨.fired, some 0⟩ ∧
      (t.recs[0]).map (fun x => (x.state, x.origin, x.live)) = some (.playing, .timetable, 3) := by decide +kernel
theorem test_applies_second_fires (h : Obligations.SecondEventAdvancesClock) :
    exec (.secondEvent true) dueState = .next (({ dueState with
      clock := ⟨3, 36000, true⟩, owed := ⟨none, false, false, false⟩ }.evaluateTrigger 0 0).carryOut id) :=
  ((h dueState true ⟨3, 36000, true⟩ _ (by decide +kernel) rfl (by decide +kernel) fun _ _ => Iff.rfl).1 0 0 _ rfl
    (fun a e => ⟨fun ⟨c, g, _, u, _⟩ => by
        have d := calls_all (s := dueState) (p := fun a c => decide (a = 0) &&
          (List.finRange 6).all fun e => !dueState.pointUsed c.plan e || decide (e = 0)) (by decide +kernel) a c g
        simp only [Bool.and_eq_true, decide_eq_true_eq, List.all_eq_true, Bool.or_eq_true, Bool.not_eq_true'] at d
        refine ⟨d.1, (d.2 e (List.mem_finRange e)).resolve_left ?_⟩
        rw [u]; decide,
      fun ⟨f, g⟩ => by subst f; subst g; exact ⟨call100, by decide +kernel, by decide +kernel, by decide +kernel, by decide +kernel⟩⟩)
    (fun k x _ e => absurd e (test_no_records k x))
    (fun a c g => by
      have d := calls_all (s := dueState) (p := fun _ c => !c.foundDue && c.retire.isNone) (by decide +kernel) a c g
      simp only [Bool.and_eq_true, Bool.not_eq_true', Option.isNone_iff_eq_none] at d
      exact ⟨d.1, fun r i => nomatch d.2.symm.trans i⟩) rfl).1

theorem test_applies_round (h : Obligations.ScanRoundForms) : ∃ t, exec .scanRoundBegin roundState = .next t :=
  ⟨_, (h roundState (by decide +kernel) rfl _ rfl).1 [] [1] 0 (by decide +kernel) nofun rfl⟩
/-- Zone 0 has an owner at the round's first turn: it is deferred, and zone 1 is tested (R139). -/
def deferringState : State := { pageState 9 with scan := roundState.scan }
theorem test_applies_deferral (h : Obligations.ScanRoundForms) :
    exec .scanRoundBegin deferringState = .next { deferringState with
      scan := ⟨true, [(1, 0), (0, 1)], [], some ⟨1, 4000, none⟩, none⟩ } :=
  (h deferringState (by decide +kernel) rfl _ rfl).1 [0] [] 1 (by decide +kernel) (by decide +kernel) rfl
/-- Every eligible zone has an owner: the round ends at once (R139). -/
theorem test_applies_empty_round (h : Obligations.ScanRoundForms) :
    ∃ t, exec .scanRoundBegin { evacState with scan := roundState.scan } = .next t :=
  ⟨_, (h { evacState with scan := roundState.scan } (by decide +kernel) rfl _ rfl).2 (by decide +kernel)⟩
theorem test_applies_line_test (h : Obligations.LineTestEndSetsLineState) :
    ∃ t, exec .lineTestEnd (testState (some 119) 0) = .next t :=
  (h (testState (some 119) 0) ⟨0, 0, some 119⟩ 200 120 (by decide +kernel) rfl rfl (by decide +kernel) (by decide +kernel)
    _ Iff.rfl (fun _ => plain_trip (by decide +kernel) (by decide +kernel) (by decide +kernel))).imp fun _ e => e.1
/-- The test of zone 0 ends SHORT while an announcement has it reserved: the reservation goes, and the record gains the
fallback (R19, R21). -/
def isolatingState : State :=
  { fallbackState Zone.init with
    recs := base.recs.set 0 (some { playingRec 0 with effective := 5, live := 4, start := 4, detached := 1 })
    zones := (fallbackState Zone.init).zones.set 0 { Zone.init with own := .reserved ⟨0, 1⟩ }
    scan := ⟨true, [(0, 0), (1, 0)], [], some ⟨0, 0, some 119⟩, none⟩ }
theorem test_applies_isolated (h : Obligations.LineTestEndSetsLineState) :
    ∃ t, exec .lineTestEnd isolatingState = .next t ∧ (t.recs[(0 : Handle)]).map Rec.effective = some 7 :=
  have ⟨t, e, _, _, _, _, _, _, _, _, _, r, _⟩ := h isolatingState ⟨0, 0, some 119⟩ 200 120 (by decide +kernel) rfl rfl
    (by decide +kernel) (by decide +kernel) _ Iff.rfl
    (fun _ => plain_trip (by decide +kernel) (by decide +kernel) (by decide +kernel))
  ⟨t, e, by
    rw [r ⟨by decide +kernel, by decide +kernel, 119, rfl, by decide, by decide⟩ 0]
    decide +kernel⟩
theorem test_applies_line_test_tripped (h : Obligations.LineTestEndSetsLineState) :
    ∃ t, exec .lineTestEnd trippedTest = .next t ∧ t.zones[(0 : ZoneId)].line = .shortLine :=
  have ⟨t, e, _, z, _⟩ := h trippedTest ⟨0, 0, some 119⟩ 200 120 (by decide +kernel) rfl rfl (by decide +kernel)
    (by decide +kernel) _ Iff.rfl (fun c => absurd c.2.1 (by decide +kernel))
  ⟨t, e, by rw [z (by decide)]; decide +kernel⟩

theorem test_applies_grant (h : Obligations.BurstGrantServesMostUrgent) : ∃ t, exec .burstGrant storeState = .next t :=
  have ⟨_, _, _, _, _, _, _, _, _, _, _, _, _, _, e⟩ := h storeState 1 (by decide +kernel) rfl (by decide +kernel) (by decide +kernel)
  ⟨_, e⟩
theorem test_applies_burst (h : Obligations.BurstCompleteFillsFifo) :
    ∃ t, exec (.burstComplete [0x34, 0x12, 0x78, 0x56]) (burstState false) = .next t :=
  have ⟨_, _, e, _⟩ := h (burstState false) ⟨0, 0, 4, 2, false⟩ [0x34, 0x12, 0x78, 0x56] (by decide +kernel) rfl rfl
  ⟨_, e⟩
/-- A void burst of a channel that is IDLE again. -/
theorem test_applies_burst_void (h : Obligations.BurstCompleteFillsFifo) :
    ∃ t, exec (.burstComplete [0x34, 0x12, 0x78, 0x56])
      { burstState true with chans := base.chans.set 0 { Channel.init with inFlight := true } } = .next t :=
  have ⟨_, _, e, _⟩ := h { burstState true with chans := base.chans.set 0 { Channel.init with inFlight := true } }
    ⟨0, 0, 4, 2, true⟩ [0x34, 0x12, 0x78, 0x56] (by decide +kernel) rfl rfl
  ⟨_, e⟩
theorem test_applies_next_element (h : Obligations.ElementEndBeginsNext) :
    ∃ t, exec (.elementEnd 0) (playingState 0) = .next t :=
  ⟨_, (h (playingState 0) 0 0 (playingRec 0) ⟨.gap 7, false⟩ _ (by decide +kernel) (by decide +kernel) (by decide +kernel)
    (by decide +kernel) rfl rfl (by decide +kernel) rfl rfl).1 (by decide +kernel)
    (fun z p => test_next_element_claims z _ p) (by decide +kernel)⟩
theorem test_applies_claim_matures (h : Obligations.ElementEndBeginsNext) : ∃ t, exec (.elementEnd 0) claimedState = .next t :=
  ⟨_, (h claimedState 0 0 (playingRec 0) ⟨.gap 7, false⟩ _ (by decide +kernel) (by decide +kernel) (by decide +kernel)
    (by decide +kernel) rfl rfl (by decide +kernel) rfl rfl).2.1 0 1 { pageRec 2 30 1 1 with seq := 2 } (by decide +kernel)
    (by decide +kernel) (by decide) (by decide +kernel) (Or.inl rfl) (by decide +kernel) (by decide +kernel)
    (fun a p n e => by
      have : ∀ a : ZoneId, a ≠ 0 → claimedState.zones[a].own.claim? = none := by decide +kernel
      have := this a n
      rw [e] at this
      cases this) (by decide +kernel)⟩
/-- A page waits for the one zone of a playing announcement. -/
def claimedSole : State :=
  joinedBy { playingState 0 with recs := base.recs.set 0 (some { playingRec 0 with effective := 1, live := 1, start := 1 }) }
    { pageRec 2 30 1 1 with seq := 2 } { Zone.init with own := .owned ⟨0, 1⟩ (some ⟨1, 2⟩) }
/-- The index is raised before the record PAUSES (R85, R87). -/
theorem test_boundary_pauses :
    let t := after (.elementEnd 0) claimedSole
    (t.recs[0]).map (fun x => (x.state, x.index)) = some (.paused, 1) ∧ (t.chans[0]).state = .paused ∧
      (t.chans[0]).index = 1 := by decide +kernel
theorem test_applies_claim_pauses (h : Obligations.ElementEndBeginsNext) : ∃ t, exec (.elementEnd 0) claimedSole = .next t :=
  ⟨_, (h claimedSole 0 0 { playingRec 0 with effective := 1, live := 1, start := 1 } ⟨.gap 7, false⟩ _ (by decide +kernel)
    (by decide +kernel) (by decide +kernel) (by decide +kernel) rfl rfl (by decide +kernel) rfl rfl).2.2.1 0 1
    { pageRec 2 30 1 1 with seq := 2 } rfl (by decide +kernel) rfl (by decide +kernel) (by decide) (by decide)
    (by decide +kernel) (Or.inl rfl) (by decide +kernel) (by decide +kernel)
    (fun a p n e => by
      have : ∀ a : ZoneId, a ≠ 0 → claimedSole.zones[a].own.claim? = none := by decide +kernel
      have := this a n
      rw [e] at this
      cases this) (by decide +kernel)⟩
theorem test_applies_reservation_taken (h : Obligations.ElementEndBeginsNext) :
    ∃ t, exec (.elementEnd 0) reservedState = .next t :=
  ((h reservedState 0 0 { playingRec 0 with live := 2, detached := 1 } ⟨.gap 7, false⟩ _ (by decide +kernel)
    (by decide +kernel) (by decide +kernel) (by decide +kernel) rfl rfl (by decide +kernel) rfl rfl).2.2.2 0 (by decide +kernel)
    (by decide +kernel) (by decide +kernel) (by decide +kernel)
    (fun z p => no_claims (by decide +kernel) z _ p)).imp fun _ e => e.1

theorem test_applies_ann_done (h : Obligations.AnnDoneAndChangeBuilt) : ∃ t, exec .annDoneBuild finishedState = .next t :=
  ⟨_, (h finishedState (by decide +kernel) rfl rfl (by decide)).1 0 []
    { annRec .done .manual with covered := 1, outcome := some .partly } rfl (by decide +kernel)⟩
theorem test_applies_change (h : Obligations.AnnDoneAndChangeBuilt) : ∃ t, exec .changeBuild pendingState = .next t :=
  ⟨_, (h pendingState (by decide +kernel) rfl rfl (by decide)).2 rfl (by decide)⟩
theorem test_applies_call_notice (h : Obligations.CallNoticeBuilt) :
    ∃ t, exec .callNoticeBuild (withCall call100) = .next t :=
  ⟨_, (h (withCall call100) 0 call100 (by decide +kernel) (by decide +kernel) rfl).1 rfl rfl (by decide) rfl rfl
    fun j _ l => absurd (Fin.lt_def.mp l) (Nat.not_lt_zero _)⟩
theorem test_applies_flagged_delete (h : Obligations.CallNoticeBuilt) :
    ∃ t, exec .callDelete (offer (withCall call100) 6 (put2 100)) = .next t :=
  ⟨_, (h (offer (withCall call100) 6 (put2 100)) 0 call100 (by decide +kernel) (by decide +kernel) rfl).2 (req 6 (put2 100))
    (by show _ = _; decide +kernel) rfl rfl (by decide) (by decide +kernel) fun k x e => absurd e (test_no_records k x)⟩

end Sys2Proof.Tests
end

/-!
PROOFS. Gain arithmetic of the zone mixer (chapter 2): the gain table L (R33), scaling (R35) and saturation (R36).
-/
namespace Sys2Proof.Machine

/-! ### The gain table (R33) -/

/-- At or below code -120 a signal is off. -/
theorem linear_of_le {g : Int} (h : g ≤ -120) : linear g = 0 := if_pos h

/-- Above code -120, L is read from the table, whose entry 0 belongs to code -119. -/
theorem linear_of_gt {g : Int} (h : -120 < g) : linear g = Config.gainTable.getD (g + 119).toNat 0 :=
  if_neg (by omega)

/-- L(0) is the divisor of the scaling, so code 0 is a gain of one. -/
@[simp] theorem linear_zero : linear 0 = 16384 := by decide

/-- The largest entry of the table is the one for code +12. -/
theorem gainTable_le : ∀ l ∈ Config.gainTable, l ≤ 32690 := by decide +kernel

/-- No code, in range or not, gives more than L(12). -/
theorem linear_le (g : Int) : linear g ≤ 32690 := by
  rcases lt_or_ge (-120) g with above | off
  · rw [linear_of_gt above, List.getD_eq_getElem?_getD]
    cases entry : Config.gainTable[(g + 119).toNat]? with
    | none => exact Nat.zero_le _
    | some l => exact gainTable_le l (List.mem_of_getElem? entry)
  · simp [linear_of_le off]

/-- Amplifying codes 0..12: 2 L - 1 ≤ 32768 * 10^(g/40) < 2 L + 1, both sides to the power 40; the table is finite. -/
theorem linear_rounds_amplification : ∀ g ∈ List.range 13, (2 * linear g - 1) ^ 40 ≤ 32768 ^ 40 * 10 ^ g ∧
    32768 ^ 40 * 10 ^ g < (2 * linear g + 1) ^ 40 := by decide +kernel

/-- Attenuating codes -1..-119: the same inequalities with the power of 10 brought to the side of L. -/
theorem linear_rounds_attenuation : ∀ g ∈ List.range 120, 1 ≤ g →
    (2 * linear (-(g : Int)) - 1) ^ 40 * 10 ^ g ≤ 32768 ^ 40 ∧
    32768 ^ 40 < (2 * linear (-(g : Int)) + 1) ^ 40 * 10 ^ g := by decide +kernel

/-! ### Scaling (R35) -/

/-- Scaling is off by at most half a sample step, and an exact half goes upwards. -/
theorem scaled_rounds (acc : Int) : 16384 * scaled acc - acc ≤ 8192 ∧ -8192 < 16384 * scaled acc - acc := by
  unfold scaled
  omega

/-- Scaling undoes the product with L(0). -/
@[simp] theorem scaled_mul_unity (v : Int) : scaled (v * 16384) = v := by
  obtain ⟨upper, lower⟩ := scaled_rounds (v * 16384)
  omega

/-! ### Saturation (R36) -/

/-- A result saturates exactly when it is no sample. -/
theorem saturates_eq_false_iff {v : Int} : saturates v = false ↔ -32768 ≤ v ∧ v ≤ 32767 := by
  simp [saturates]

/-- A sample's value lies in the sample range. -/
@[simp] theorem saturates_toInt (w : Word) : saturates w.toInt = false :=
  have below : w.toInt < 32768 := w.toInt_lt
  saturates_eq_false_iff.mpr ⟨w.le_toInt, by omega⟩

/-- A result that does not saturate is passed as it stands. -/
theorem saturate_of_not_saturates {v : Int} (h : saturates v = false) : saturate v = BitVec.ofInt 16 v := by
  obtain ⟨lower, upper⟩ := saturates_eq_false_iff.mp h
  rw [saturate, clampInt, if_neg (not_lt.mpr lower), if_neg (not_lt.mpr upper)]

/-- Saturation gives a sample back from its value. -/
@[simp] theorem saturate_toInt (w : Word) : saturate w.toInt = w := by
  rw [saturate_of_not_saturates (saturates_toInt w), BitVec.ofInt_toInt]

/-- A single signal at code 0 comes out of the mixer unchanged, and no clip is counted for it. -/
theorem unity_gain_passes (w : Word) :
    saturate (scaled (w.toInt * (linear 0 : Int))) = w ∧
      saturates (scaled (w.toInt * (linear 0 : Int))) = false := by
  simp

/-- Settles O12: the table entries code by code, then the rounding of scaling and its inverse at unity gain. -/
theorem gainTableAndScalingRound : Obligations.GainTableAndScalingRound :=
  ⟨linear_of_le le_rfl, linear_zero, by decide, linear_le, linear_rounds_amplification, linear_rounds_attenuation,
    scaled_rounds, unity_gain_passes⟩

end Sys2Proof.Machine

/-!
PROOFS. Running events (chapter on calls): how a CALL_EVENT row is taken and judged (R123), and ARRIVED (R130).
-/
namespace Sys2Proof.Machine

/-! ### A CALL_EVENT row (R123) -/

/-- A CALL_EVENT holds one place of the outbound queue, that of its RESULT (R180). -/
theorem placesFor_of_eventIs {e : RunEvent} {s : State} {q : Request} (row : eventIs e s q = true) :
    placesFor q = 1 := by
  have type : q.type.toNat = TypeCode.callEvent := by
    simp only [eventIs, typeIs, Bool.and_eq_true, decide_eq_true_eq] at row
    exact row.1
  have other : q.type.toNat ≠ TypeCode.evacEnd := by rw [type]; decide
  exact if_neg other

/-- Taking a request leaves the calls alone. -/
@[simp] theorem State.taken_eventCall (s : State) (q : Request) (id : Nat) :
    (s.taken q).eventCall id = s.eventCall id := rfl

@[simp] theorem State.taken_work (s : State) (q : Request) : (s.taken q).work = s.work := rfl

@[simp] theorem State.taken_passDue (s : State) (q : Request) : (s.taken q).passDue = s.passDue := rfl

/-- A request of one place that writes one call and is answered: the call's slot and the RESULT are all that changes. -/
theorem State.taken_setCall_placeResult (s : State) (q : Request) (i : CallSlot) (c : Option Call) (code : Nat)
    (items : List Byte) (one : placesFor q = 1) :
    ((s.taken q).setCall i c).placeResult q code items =
      { s.answered q code items with calls := s.calls.set i.val c i.isLt } := by
  rw [← taken_placeResult s q code items one]
  rfl

section
variable {s : State} {q : Request} {e : RunEvent} {i : CallSlot} {c : Call}

/-- An event whose value is not checked, named with a call that exists, is judged by the call's state alone. -/
theorem State.carryEvent_of_call (act : State → CallSlot → Call → Nat → State) (unchecked : e ≠ .platform)
    (length : q.payload.length = 5) (call : s.eventCall (field2 q.payload 0) = some (i, c)) :
    s.carryEvent q e act =
      if e.accepts c.state = true then act s i c (field2 q.payload 3) else s.answer q ResultCode.state [] := by
  simp [carryEvent, sized, length, call, unchecked]

/-- An accepted event that rewrites its call and answers OK leaves everything else as it was. -/
theorem State.eventRow_rewrites {act : State → Request → CallSlot → Call → Nat → State} {c' : Call}
    (quiet : s.quiet = true) (offer : s.offers q) (row : eventIs e s q = true) (unchecked : e ≠ .platform)
    (length : q.payload.length = 5) (call : s.eventCall (field2 q.payload 0) = some (i, c))
    (accepted : e.accepts c.state = true)
    (acts : act (s.taken q) q i c (field2 q.payload 3) =
      ((s.taken q).setCall i (some c')).answer q ResultCode.ok []) :
    s.eventRow e act =
      { s.answered q ResultCode.ok [] with calls := s.calls.set i.val (some c') i.isLt } := by
  have carried : (s.taken q).carryEvent q e (fun s => act s q) =
      ((s.taken q).setCall i (some c')).answer q ResultCode.ok [] := by
    rw [carryEvent_of_call _ unchecked length (by simpa using call), if_pos accepted, acts]
  rw [← taken_setCall_placeResult s q i (some c') _ _ (placesFor_of_eventIs row)]
  exact command_answer quiet offer row carried (by simpa using quiet_work quiet) (by simpa using quiet_passDue quiet)

/-- An event that the call's state does not accept is answered STATE, and nothing else happens. -/
theorem State.eventRow_refused (act : State → Request → CallSlot → Call → Nat → State) (quiet : s.quiet = true)
    (offer : s.offers q) (row : eventIs e s q = true) (unchecked : e ≠ .platform) (length : q.payload.length = 5)
    (call : s.eventCall (field2 q.payload 0) = some (i, c)) (refused : e.accepts c.state = false) :
    s.eventRow e act = s.answered q ResultCode.state [] := by
  have carried : (s.taken q).carryEvent q e (fun s => act s q) = (s.taken q).answer q ResultCode.state [] := by
    rw [carryEvent_of_call _ unchecked length (by simpa using call), if_neg (by simp [refused])]
  rw [← taken_placeResult s q _ _ (placesFor_of_eventIs row)]
  exact command_answer quiet offer row carried (by simpa using quiet_work quiet) (by simpa using quiet_passDue quiet)

end

/-! ### ARRIVED (R130) -/

/-- ARRIVED's row of the transition table: PLANNED accepts it and no other state does. -/
theorem accepts_arrived_iff (state : CallState) : RunEvent.arrived.accepts state = true ↔ state = .planned := by
  cases state <;> decide

theorem exec_arrived (s : State) : exec .arrived s =
    .next (s.eventRow .arrived fun s q i c _ => (s.setCall i (some c.hasArrived)).answer q ResultCode.ok []) := rfl

/-- Condition 9, ARRIVED, is true of an arrived call until it departs. -/
theorem Call.hasArrived_condition_arrived {c : Call} (staying : c.departed = false) :
    conditionHolds 9 c.hasArrived = true := by
  simp [conditionHolds, hasArrived, staying]

/-- Conditions 10 to 12 need A clear, which an arrival sets. -/
theorem Call.hasArrived_conditions_not_arrived (c : Call) : conditionHolds 10 c.hasArrived = false ∧
    conditionHolds 11 c.hasArrived = false ∧ conditionHolds 12 c.hasArrived = false := by
  simp [conditionHolds, hasArrived]

/-- Settles O29: the row rewrites the call in PLANNED and refuses it otherwise; the conditions follow from A alone. -/
theorem arrivedMovesCall : Obligations.ArrivedMovesCall := by
  intro s q i c quiet offer row length call
  have unchecked : RunEvent.arrived ≠ .platform := by decide
  rw [exec_arrived]
  constructor
  · intro planned
    have accepted : RunEvent.arrived.accepts c.state = true := (accepts_arrived_iff _).mpr planned
    exact ⟨c.hasArrived, rfl,
      congrArg _ (State.eventRow_rewrites quiet offer row unchecked length call accepted rfl),
      Call.hasArrived_condition_arrived, c.hasArrived_conditions_not_arrived⟩
  · intro elsewhere
    have refused : RunEvent.arrived.accepts c.state = false :=
      Bool.eq_false_iff.mpr fun accepted => elsewhere ((accepts_arrived_iff _).mp accepted)
    exact congrArg _ (State.eventRow_refused _ quiet offer row unchecked length call refused)

end Sys2Proof.Machine

/-!
PROOFS. Requests on Parameter Memory (chapter 11): PARAM_READ (R184).
-/
namespace Sys2Proof.Machine

/-! ### A request answered from what it finds (R180) -/

/-- A request of one place that is answered and does nothing else: its RESULT is all that a quiet part's command adds. -/
theorem State.command_answered {s : State} {q : Request} {row : State → Request → Bool}
    {carry : State → Request → State} {code : Nat} {items : List Byte} (quiet : s.quiet = true) (offer : s.offers q)
    (taken : row s q = true) (one : placesFor q = 1)
    (carried : carry (s.taken q) q = (s.taken q).answer q code items) :
    s.command (fun s => s.takeRequest row carry) = s.answered q code items := by
  rw [← taken_placeResult s q code items one]
  exact command_answer quiet offer taken carried (by simpa using quiet_work quiet) (by simpa using quiet_passDue quiet)

/-! ### PARAM_READ (R184) -/

theorem exec_paramRead (s : State) : exec .paramRead s =
    .next (s.command fun s => s.takeRequest (typeIs TypeCode.paramRead) State.carryRead) := rfl

/-- A PARAM_READ holds one place of the outbound queue, that of its RESULT (R180). -/
theorem placesFor_of_paramRead {q : Request} (type : q.type.toNat = TypeCode.paramRead) : placesFor q = 1 := by
  have other : q.type.toNat ≠ TypeCode.evacEnd := by rw [type]; decide
  exact if_neg other

section
variable {s : State} {q : Request}

/-- A read whose length and count pass the checks of R181 is judged by its addresses alone. -/
theorem State.carryRead_of_countOk (length : q.payload.length = 3) (count : countOk q.payload = true) :
    s.carryRead q =
      if (List.range (paramCount q.payload)).all (fun i => readable (paramStart q.payload + i)) = false then
        s.answer q ResultCode.badAddress []
      else s.answer q ResultCode.ok
        ((s.readParams (paramStart q.payload) (paramCount q.payload)).flatMap putWord) := by
  simp [carryRead, length, count]

/-- A read of readable words answers them, in ascending address order. -/
theorem State.carryRead_readable (length : q.payload.length = 3) (count : countOk q.payload = true)
    (all : (List.range (paramCount q.payload)).all (fun i => readable (paramStart q.payload + i)) = true) :
    s.carryRead q = s.answer q ResultCode.ok
      ((s.readParams (paramStart q.payload) (paramCount q.payload)).flatMap putWord) := by
  rw [carryRead_of_countOk length count, if_neg (by rw [all]; decide)]

/-- A read that meets a word that is not readable is refused. -/
theorem State.carryRead_unreadable (length : q.payload.length = 3) (count : countOk q.payload = true)
    (hidden : (List.range (paramCount q.payload)).all (fun i => readable (paramStart q.payload + i)) = false) :
    s.carryRead q = s.answer q ResultCode.badAddress [] := by
  rw [carryRead_of_countOk length count, if_pos hidden]

end

/-- Settles O13: either answer follows the taking at once, so the words read are those of the state just after it. -/
theorem paramReadReturnsWords : Obligations.ParamReadReturnsWords := by
  intro s q quiet offer type length count
  have row : typeIs TypeCode.paramRead s q = true := decide_eq_true type
  have one : placesFor q = 1 := placesFor_of_paramRead type
  rw [exec_paramRead]
  split
  next all =>
    have readable := State.carryRead_readable (s := s.taken q) length count all
    exact congrArg _ (State.command_answered quiet offer row one readable)
  next hidden =>
    have unreadable := State.carryRead_unreadable (s := s.taken q) length count (Bool.eq_false_iff.mpr hidden)
    exact congrArg _ (State.command_answered quiet offer row one unreadable)

end Sys2Proof.Machine
